-- ==== Sys2Proof/Word.lean ====
section
/-! DEFINITION. The widths the data sheet gives its words, and the plainest arithmetic on them. -/

namespace Sys2Proof

/-- One byte. -/
abbrev Byte := BitVec 8

/-- A link address, a pixel word, the millisecond counter: 32 bits. -/
abbrev Word := BitVec 32

/-- The data of one beat, 32 bytes (section 1.1). Byte `j` of the beat is bits `8 j + 7 .. 8 j`, and pixel word `k` is
bits `32 k + 31 .. 32 k`: multi-byte fields in memory are little-endian (R170). -/
abbrev Beat := BitVec 256

/-- The byte enables of one beat: bit `j` is the enable of byte `j` (R170). -/
abbrev Enables := BitVec 32

/-- `x` taken at the nearest bound of the range `lo` to `hi`. -/
def clampTo (lo hi x : Nat) : Nat := max lo (min hi x)

/-- `ceil (a / b)` for `b > 0`. -/
def ceilDiv (a b : Nat) : Nat := (a + (b - 1)) / b

/-- `a - b` modulo 2^32: a span between two millisecond timestamps ("Time", 00_scope.md). -/
def spanMs (newest oldest : Word) : Nat := (newest - oldest).toNat

end Sys2Proof
end

