-- ==== Sys2Proof/Syntax.lean ====
section
/-! DEFINITION. The commands of the part: one constructor of `Instr` for each row of spec/opcode_table.json, in the
table's order, with the operands that the outside world supplies. A command given through the control region (WINDOW and
the rows after it) has no operand: its parameters stand in the slot shadow (R150, R152), which earlier requests filled. -/

namespace Sys2Proof

/-- One write beat: 32 data bytes and the byte-enable mask (section 1.1). -/
structure WriteBeat where
  data : Beat
  enables : Enables
  deriving DecidableEq, Repr

/-- Kind of a request with what each kind carries: a WRITE its beats, a READ only its beat count (section 1.1). -/
inductive Body where
  | write (beats : List WriteBeat)
  | read (count : Nat)
  deriving DecidableEq, Repr

/-- A request on the frame-store link (section 1.1). -/
structure Request where
  requester : BitVec 6
  address : Word
  body : Body
  deriving DecidableEq, Repr

/-- A driver line, DL0 to DL15. -/
abbrev LineNo := Fin 16

/-- The four converter codes of one millisecond (R136). -/
structure SampleSet where
  vled : BitVec 12
  tb0 : BitVec 12
  tb1 : BitVec 12
  tdie : BitVec 12
  deriving DecidableEq, Repr

/-- The commands: every row of spec/opcode_table.json. -/
inductive Instr where
  /-- A whole request arrives on the upstream port (R1). -/
  | requestReceived (r : Request)
  /-- The frame-store controller admits one request on the downstream port (R10). -/
  | downstreamSend
  /-- A return beat arrives on the downstream port (R12). -/
  | returnBeatReceived (data : Beat)
  /-- The upstream link goes DOWN (R15). -/
  | upstreamLinkDown
  /-- The upstream link goes UP (R16). -/
  | upstreamLinkUp
  /-- The downstream link goes DOWN (R17). -/
  | downstreamLinkDown
  /-- The downstream link goes UP (R18). -/
  | downstreamLinkUp
  /-- RESET_N is driven low (R19). -/
  | resetAsserted
  /-- RESET_N is released with these straps on CFG[2:0] (R149). -/
  | resetReleased (cfg : BitVec 3)
  /-- The executing command offers its next injected request (R9, R154). -/
  | injectedRequestOffer
  /-- The engine starts on the head of the analysis queue (R37, R54). -/
  | analysisStart
  /-- The analysis in progress completes (R68). -/
  | analysisCompletion
  /-- The supervision timer has reached scan_timeout (R90, R91). -/
  | supervisionTimerExpiry
  /-- A line builds a SETUP (R111). -/
  | setupBuild (line : LineNo)
  /-- A line builds a LEVEL (R112). -/
  | levelBuild (line : LineNo)
  /-- A line builds a LATCH (R113). -/
  | latchBuild (line : LineNo)
  /-- A line builds a POLL (R113). -/
  | pollBuild (line : LineNo)
  /-- The last byte of a line's LATCH has been sent (R113). -/
  | latchEnd (line : LineNo)
  /-- The last expected byte of a line's return has arrived; `bytes` is the whole return (R114). -/
  | returnCheck (line : LineNo) (bytes : List Byte)
  /-- A byte of a line's return has not begun within its window (R114). -/
  | timeout (line : LineNo)
  /-- A line's WAIT_SLOT timer has reached one slot length (R119). -/
  | waitSlotElapsed (line : LineNo)
  /-- A FAULTED line's retry delay has run out (R123). -/
  | retryDelayElapsed (line : LineNo)
  /-- A RUNNING line's poll timer has reached its poll interval (R117). -/
  | pollTimerExpiry (line : LineNo)
  /-- The step timer has reached the slot length during power-up (R133). -/
  | powerUpStep
  /-- The step timer has reached the slot length while dropping (R135). -/
  | powerDownStep
  /-- One millisecond's sample set is delivered (R136). -/
  | analogSample (codes : SampleSet)
  /-- The sample at which the cool-down count reaches 1,000 (R139). -/
  | coolDownEnd (codes : SampleSet)
  /-- The asserted microsecond sample at which the overcurrent trips (R142). -/
  | ocTrip
  /-- 10,000 microsecond ticks have passed since a TIMED trip (R143). -/
  | timedRelease
  /-- Execution of the slot at the index, a WINDOW command, begins (R22, R152). -/
  | window
  /-- Execution of a WINDOW_OFF command begins (R23). -/
  | windowOff
  /-- Execution of a SET_GRID command begins (R43). -/
  | setGrid
  /-- Execution of a SELECT_SET command begins (R74). -/
  | selectSet
  /-- Execution of a BACKLIGHT(ON) command begins (R131). -/
  | backlightOn
  /-- Execution of a BACKLIGHT(OFF) command begins (R132). -/
  | backlightOff
  /-- Execution of a LOAD_TABLE command begins (R159). -/
  | loadTable
  /-- The load of the executing LOAD_TABLE begins (R160). -/
  | tableLoadBegin
  /-- Execution of a READ_STATUS command begins (R166). -/
  | readStatus
  /-- Execution of a READ_EVENTS command begins (R168). -/
  | readEvents
  /-- Execution of CLEAR_FAULT for a line begins (R124). -/
  | clearFaultLine
  /-- Execution of CLEAR_FAULT for zones begins (R129). -/
  | clearFaultZones
  /-- Execution of CLEAR_FAULT for protection begins (R147). -/
  | clearFaultProtection
  /-- Execution of a slot whose code names no command begins (R153). -/
  | badCommand
  /-- One microsecond sample of OC_N; `asserted` says whether OC_N is low (R142). -/
  | overcurrentSample (asserted : Bool)
  deriving DecidableEq, Repr

/-- The number of beats a request covers (section 1.1). -/
def Request.beatCount (r : Request) : Nat :=
  match r.body with
  | .write beats => beats.length
  | .read count => count

/-- Whether a request is a READ. -/
def Request.isRead (r : Request) : Bool :=
  match r.body with
  | .write _ => false
  | .read _ => true

/-- The address of beat `k` of a request, taken modulo 2^32 (R1). -/
def Request.beatAddress (r : Request) (k : Nat) : Word := r.address + BitVec.ofNat 32 (32 * k)

end Sys2Proof
end

