-- ==== Sys2Proof/Decode.lean ====
section
/-! DEFINITION. The commands of this part are events on its ports and pins. No row of spec/opcode_table.json gives bits,
so no word spells a command and there is nothing to encode. The command codes that software writes into a slot (section
10.3) are data of the slot shadow and are read by `Machine/Operands.lean`. -/

namespace Sys2Proof

/-- The command that a word of `nbits` bits spells by the table's bits: none, since the table gives no row any bits. -/
def decodeTableWord (_nbits _w : Nat) : Option Instr := none

end Sys2Proof
end

