-- ==== Sys2Proof/Config.lean ====
section
/-! DEFINITION. What the part fixes by its size, and the free values of the model. -/

namespace Sys2Proof.Config

/-- Entries of every per-zone store: at most 96 columns by 54 rows (R41). -/
def zoneLimit : Nat := 5184

/-- Sum of duties when every zone is at full duty, and the default of every cap (R148). -/
def fullBudget : Nat := 21228480

/-- Depth of the forward queue (R8). -/
def forwardDepth : Nat := 16

/-- Depth of the injected queue (R9). -/
def injectedDepth : Nat := 4

/-- Entries of the read tracking list (R11). -/
def trackingDepth : Nat := 32

/-- Forwarded requests that may pass a waiting injected request (R10). -/
def waitLimit : Nat := 32

/-- Records the event queue holds (R167). -/
def eventDepth : Nat := 32

/-- FREE VALUE (assumption 3). The data on the byte lanes of an injected write whose enable bit is 0: no rule says
what they carry. `n` is the model's counter of such beats, so no two of them need agree. -/
opaque disabledLanes (n : Nat) : Beat

end Sys2Proof.Config
end

