-- ==== Sys2Proof/Machine/Table.lean ====
section
/-! DEFINITION. A store indexed by zone, as plain data in ONE canonical form: the entries that differ from the store's
reset value `d`, at rising indexes. Equal contents are equal data, and a 5,184-entry store at its reset value is empty. -/

namespace Sys2Proof.Machine

/-- A store of `α` by index; every index not listed holds `d`. -/
structure ZoneTable (α : Type) (d : α) where
  cells : List (Nat × α)
  /-- The indexes rise strictly. -/
  rising : cells.Pairwise (fun a b => a.1 < b.1)
  /-- No entry equals what an unlisted index reads as. -/
  listed : ∀ c ∈ cells, c.2 ≠ d
  deriving DecidableEq, Repr

/-- The value at index `i` of a list of cells. -/
def cellsGet {α : Type} (d : α) : List (Nat × α) → Nat → α
  | [], _ => d
  | (k, v) :: rest, i => if k = i then v else cellsGet d rest i

/-- The cells with index `i` set to `v`, in canonical form. -/
def cellsSet {α : Type} [DecidableEq α] (d : α) (i : Nat) (v : α) : List (Nat × α) → List (Nat × α)
  | [] => if v = d then [] else [(i, v)]
  | (k, w) :: rest =>
    if i < k then (if v = d then (k, w) :: rest else (i, v) :: (k, w) :: rest)
    else if i = k then (if v = d then rest else (i, v) :: rest)
    else (k, w) :: cellsSet d i v rest

/-- The cells of a function on the indexes below `n`, in canonical form. -/
def cellsOf {α : Type} [DecidableEq α] (d : α) (n : Nat) (f : Nat → α) : List (Nat × α) :=
  ((List.range n).map fun i => (i, f i)).filter fun c => decide (c.2 ≠ d)

theorem mem_cellsSet {α : Type} [DecidableEq α] (d : α) (i : Nat) (v : α) (l : List (Nat × α)) (c : Nat × α)
    (h : c ∈ cellsSet d i v l) : c ∈ l ∨ (c = (i, v) ∧ v ≠ d) := by
  induction l with
  | nil => simp only [cellsSet] at h; split at h <;> simp_all
  | cons a rest ih =>
    obtain ⟨k, w⟩ := a
    simp only [cellsSet] at h
    split at h <;> (try split at h) <;> (try split at h) <;> simp_all <;> tauto

theorem cellsSet_rising {α : Type} [DecidableEq α] (d : α) (i : Nat) (v : α) (l : List (Nat × α))
    (h : l.Pairwise (fun a b => a.1 < b.1)) : (cellsSet d i v l).Pairwise (fun a b => a.1 < b.1) := by
  induction l with
  | nil => simp only [cellsSet]; split <;> simp
  | cons a rest ih =>
    obtain ⟨k, w⟩ := a
    rw [List.pairwise_cons] at h
    obtain ⟨hk, hr⟩ := h
    simp only [cellsSet]
    split
    · rename_i hlt
      split
      · exact List.pairwise_cons.2 ⟨hk, hr⟩
      · refine List.pairwise_cons.2 ⟨?_, List.pairwise_cons.2 ⟨hk, hr⟩⟩
        intro b hb
        rcases List.mem_cons.1 hb with rfl | hb
        · exact hlt
        · exact Nat.lt_trans hlt (hk b hb)
    · split
      · rename_i heq
        subst heq
        split
        · exact hr
        · exact List.pairwise_cons.2 ⟨hk, hr⟩
      · refine List.pairwise_cons.2 ⟨?_, ih hr⟩
        intro b hb
        rcases mem_cellsSet d i v rest b hb with hb | ⟨rfl, _⟩
        · exact hk b hb
        · show k < i
          omega

theorem cellsSet_listed {α : Type} [DecidableEq α] (d : α) (i : Nat) (v : α) (l : List (Nat × α))
    (h : ∀ c ∈ l, c.2 ≠ d) : ∀ c ∈ cellsSet d i v l, c.2 ≠ d := by
  intro c hc
  rcases mem_cellsSet d i v l c hc with hc | ⟨rfl, hv⟩
  · exact h c hc
  · exact hv

theorem cellsOf_rising {α : Type} [DecidableEq α] (d : α) (n : Nat) (f : Nat → α) :
    (cellsOf d n f).Pairwise (fun a b => a.1 < b.1) := by
  refine List.Pairwise.filter _ ?_
  rw [List.pairwise_map]
  exact List.pairwise_lt_range

theorem cellsOf_listed {α : Type} [DecidableEq α] (d : α) (n : Nat) (f : Nat → α) :
    ∀ c ∈ cellsOf d n f, c.2 ≠ d := by
  intro c hc
  have := (List.mem_filter.1 hc).2
  simpa using this

/-- The store with every index at its reset value. -/
def ZoneTable.empty {α : Type} {d : α} : ZoneTable α d :=
  { cells := [], rising := List.Pairwise.nil, listed := by intro c hc; cases hc }

/-- The entry at index `i`. -/
def ZoneTable.get {α : Type} {d : α} (t : ZoneTable α d) (i : Nat) : α := cellsGet d t.cells i

/-- The store with entry `i` replaced. -/
def ZoneTable.set {α : Type} [DecidableEq α] {d : α} (t : ZoneTable α d) (i : Nat) (v : α) : ZoneTable α d :=
  { cells := cellsSet d i v t.cells
    rising := cellsSet_rising d i v t.cells t.rising
    listed := cellsSet_listed d i v t.cells t.listed }

/-- The store that holds `f i` at each index below `n` and its reset value elsewhere. -/
def ZoneTable.ofFn {α : Type} [DecidableEq α] {d : α} (n : Nat) (f : Nat → α) : ZoneTable α d :=
  { cells := cellsOf d n f, rising := cellsOf_rising d n f, listed := cellsOf_listed d n f }

end Sys2Proof.Machine
end

