-- ==== Sys2Proof/Machine/State.lean ====
section
/-! DEFINITION. Everything the data sheet makes the part hold, as plain data, and its values after RESET_N. A figure that
several rules derive from other state (a bank's holder, a free slot, LEN, BL_OFF_N, ALERT_N, the duty ceiling, the budget
cap) is stored once and computed where it is read (`Machine/Flags.lean`, `Machine/Operands.lean`). -/

namespace Sys2Proof.Machine

/-! ### Numbers of things -/

/-- A window, or the buffer record that goes with it (R20, R24). -/
abbrev WindowNo := Fin 4
/-- A statistics bank (R46). -/
abbrev BankNo := Fin 2
/-- A result slot (R76). -/
abbrev SlotNo := Fin 5
/-- A command slot (R150). -/
abbrev CommandNo := Fin 16

/-! ### Link Path (chapter 1) -/

/-- The link state of a port (section 1.9). -/
inductive LinkState where
  | up
  | down
  deriving DecidableEq, Repr

/-- Arrangement of the colour fields in a pixel word (section 10.2). -/
inductive PixelFormat where
  | rgb10
  | rgb8
  deriving DecidableEq, Repr

/-- The read classification of one beat (R5). -/
structure ReadClass where
  window : Option WindowNo
  line : Nat
  firstPixel : Nat
  active : Nat
  scanMatch : Bool
  compensate : Bool
  format : PixelFormat
  hueClip : Bool
  width : Nat
  height : Nat
  deriving DecidableEq, Repr

/-- An entry of the forward queue: the request as received and, for a READ, one classification per beat (R8). -/
structure Forwarded where
  request : Request
  classes : List ReadClass
  deriving DecidableEq, Repr

/-- The six loadable tables (R158). -/
inductive TableId where
  | zoneMap
  | calibration
  | lineSetup
  | setA
  | setB
  | limits
  deriving DecidableEq, Repr

/-- Why the Command Ring issues an injected request (section 1.6). -/
inductive Purpose where
  /-- A status block or event area write. -/
  | data
  /-- The status word write that ends the command (R154), with the 32-bit status word. -/
  | status (word : Word)
  /-- A read of the fetch of this table (R161). -/
  | fetch (table : TableId)
  deriving DecidableEq, Repr

/-- An injected request (R9). -/
structure Injected where
  request : Request
  purpose : Purpose
  deriving DecidableEq, Repr

/-- Where a tracked read came from, with what R11 keeps for each origin: the read classifications, or the reference to the
fetch an injected read is for. -/
inductive Origin where
  | forwarded (classes : List ReadClass)
  | injected (purpose : Purpose)
  deriving DecidableEq, Repr

/-- An entry of the read tracking list (R11). -/
structure Tracked where
  origin : Origin
  beatCount : Nat
  received : Nat
  deriving DecidableEq, Repr

/-- A request that left the downstream port, with the queue it came from. -/
structure Sent where
  request : Request
  injected : Bool
  deriving DecidableEq, Repr

/-- The Link Path. `sentDown` and `sentUp` are the model's own record of what its two output ports have carried since
RESET_N, oldest first (assumption 4). -/
structure LinkPath where
  upstream : LinkState
  downstream : LinkState
  credits : Nat
  forward : List Forwarded
  injected : List Injected
  waitCount : Nat
  tracking : List Tracked
  sentDown : List Sent
  sentUp : List Beat
  deriving DecidableEq, Repr

/-! ### Windows and buffers (chapter 2) -/

/-- A window record (R20). -/
structure Window where
  enable : Bool
  base : Word
  pitch : Nat
  width : Nat
  height : Nat
  format : PixelFormat
  writerMatch : BitVec 6
  writerMask : BitVec 6
  scanMatch : BitVec 6
  scanMask : BitVec 6
  compensation : Bool
  hueClip : Bool
  deriving DecidableEq, Repr

/-- State of a buffer record, each with the attributes R24 gives that state. -/
inductive BufferState where
  | disabled
  | idle
  | filling (bank : BankNo)
  | blind
  | queued (bank : BankNo)
  | analysing (bank : BankNo)
  | ready (slot : SlotNo)
  | shown (slot : SlotNo)
  deriving DecidableEq, Repr

/-- A buffer record (R24): its state and its pixels-written count. -/
structure Buffer where
  state : BufferState
  written : Nat
  deriving DecidableEq, Repr

/-! ### Grid and statistics (chapter 3) -/

/-- The zone grid in force (R41). -/
structure Grid where
  columns : Nat
  rows : Nat
  leadLines : Nat
  deriving DecidableEq, Repr

/-- The accumulators of one zone (R46). -/
structure ZoneStat where
  peak : Nat
  sum : Nat
  bright : Nat
  pixels : Nat
  deriving DecidableEq, Repr

/-- An emptied per-zone record (R48). -/
def ZoneStat.zero : ZoneStat := { peak := 0, sum := 0, bright := 0, pixels := 0 }

/-- A statistics bank (R46); its holder is the buffer record that names it. -/
structure Bank where
  threshold : Nat
  zones : ZoneTable ZoneStat ZoneStat.zero
  deriving DecidableEq, Repr

/-! ### Zone computation (chapter 4) -/

/-- One zone of the History Table: previous level P and boost counter B (R70). -/
structure HistoryEntry where
  level : Nat
  boost : Nat
  deriving DecidableEq, Repr

/-- An empty history entry (R70). -/
def HistoryEntry.zero : HistoryEntry := { level := 0, boost := 0 }

/-- The History Table (R70). -/
structure History where
  valid : Bool
  mean : Nat
  zones : ZoneTable HistoryEntry HistoryEntry.zero
  deriving DecidableEq, Repr

/-- The selectable parameter sets (R53). -/
inductive SetId where
  | a
  | b
  deriving DecidableEq, Repr

/-- The set an analysis used (R55). -/
inductive SetUsed where
  | setA
  | setB
  | builtin
  deriving DecidableEq, Repr

/-- A parameter set as an analysis uses it, every field in its range (R56). `halo` is K and `spread` is S, nine entries
each, entry `[i][j]` at place `3 i + j`. -/
structure ParamSet where
  mixK : Nat
  mixKSmall : Nat
  brightThreshold : Nat
  minBrightArea : Nat
  curve : List Nat
  minLevel : Nat
  halo : List Nat
  sustainLevel : Nat
  boostFrames : Nat
  coolStep : Nat
  upRate : Nat
  downRate : Nat
  cutThreshold : Nat
  spread : List Nat
  eRef : Nat
  gainCeiling : Nat
  deriving DecidableEq, Repr

/-- State of a table (section 9.4). -/
inductive TableState where
  | invalid
  | loading
  | valid
  deriving DecidableEq, Repr

/-- The snapshot an analysis takes at its start (R55 to R57), with the History Table it reads (R70). -/
structure Snapshot where
  params : ParamSet
  setUsed : SetUsed
  cap : Nat
  calibration : ZoneTable (BitVec 16) (1024#16)
  mapState : TableState
  zoneMap : ZoneTable Word (0#32)
  openMarks : BitVec 5184
  shortMarks : BitVec 5184
  running : BitVec 16
  history : History
  deriving DecidableEq, Repr

/-- The analysis in progress (R53). -/
structure Analysis where
  buffer : WindowNo
  bank : BankNo
  slot : SlotNo
  tag : BitVec 16
  snap : Snapshot
  deriving DecidableEq, Repr

/-- The Zone Computation Engine: IDLE when it holds no analysis, ACTIVE when it holds one (R53). -/
structure Engine where
  tag : BitVec 16
  analysis : Option Analysis
  selected : SetId
  deriving DecidableEq, Repr

/-! ### Result store and Scan Tracker (chapter 5) -/

/-- A result record (R72). -/
structure Result where
  duty : ZoneTable Nat 0
  gain : ZoneTable Nat 256
  tag : BitVec 16
  window : WindowNo
  setUsed : SetUsed
  total : Nat
  cap : Nat
  scale : Nat
  mean : Nat
  budgetLimited : Bool
  boostLimited : Bool
  darkZones : Nat
  deriving DecidableEq, Repr

/-- The record a slot holds before any analysis has written it (assumption 5; no block reads it, R76). -/
def Result.unwritten : Result :=
  { duty := ZoneTable.empty, gain := ZoneTable.empty, tag := 0, window := 0, setUsed := .setA, total := 0, cap := 0,
    scale := 0, mean := 0, budgetLimited := false, boostLimited := false, darkZones := 0 }

/-- One entry of the Zone Drive Table (R79). -/
structure DriveEntry where
  duty : Nat
  gain : Nat
  deriving DecidableEq, Repr

/-- The entry after RESET_N or SET_GRID (R79, R43). -/
def DriveEntry.reset : DriveEntry := { duty := 0, gain := 256 }

/-- A timer: STOPPED, or RUNNING with an elapsed time in its own unit. -/
inductive Timer where
  | stopped
  | running (elapsed : Nat)
  deriving DecidableEq, Repr

/-- Whether the fallback level is being driven (R81). -/
inductive FallbackState where
  | normal
  | fallback
  deriving DecidableEq, Repr

/-- The Scan Tracker (R81). -/
structure ScanTracker where
  pointer : Option WindowNo
  result : Option SlotNo
  progress : Nat
  passed : Nat
  committed : Nat
  fallback : FallbackState
  supervision : Timer
  deriving DecidableEq, Repr

/-! ### Driver lines (chapter 7) -/

/-- State of a line (R106). -/
inductive LineState where
  | off
  | waitSlot
  | starting
  | running
  | faulted
  | locked
  deriving DecidableEq, Repr

/-- The four kinds of line frame (section 7.3). -/
inductive FrameKind where
  | setup
  | level
  | latch
  | poll
  deriving DecidableEq, Repr

/-- A frame in flight: its bytes as sent, the channels whose mask bits a LEVEL set, whether the end of its last byte has
been signalled (LATCH_END), and whether it was built after the most recent duty ceiling change (R116, R118). -/
structure Frame where
  kind : FrameKind
  bytes : List Byte
  mask : BitVec 384
  ended : Bool
  afterCeiling : Bool
  deriving DecidableEq, Repr

/-- A line record with the line's hot flags and suspect marks (R106). Channel `k` of position `p` is bit `16 p + k`.
`slotUs` is the slot length taken at the entry to WAIT_SLOT (R119). The state timer counts microseconds in WAIT_SLOT and
milliseconds in FAULTED. -/
structure Line where
  state : LineState
  failures : Nat
  history : List Word
  dirty : BitVec 384
  latchOwed : Bool
  setupOwed : Bool
  pollDue : Bool
  pollTimer : Timer
  ceilingLatched : Bool
  inFlight : Option Frame
  stateTimer : Timer
  slotUs : Nat
  hot : BitVec 24
  openSuspect : BitVec 384
  shortSuspect : BitVec 384
  deriving DecidableEq, Repr

/-- A line record after RESET_N (R106). -/
def Line.reset : Line :=
  { state := .off, failures := 0, history := [], dirty := 0, latchOwed := false, setupOwed := false, pollDue := false,
    pollTimer := .stopped, ceilingLatched := true, inFlight := none, stateTimer := .stopped, slotUs := 0, hot := 0,
    openSuspect := 0, shortSuspect := 0 }

/-- The Zone Fault Map: an OPEN and a SHORT mark per zone (R126). -/
structure FaultMap where
  openMarks : BitVec 5184
  shortMarks : BitVec 5184
  deriving DecidableEq, Repr

/-! ### Protection and sequencing (chapter 8) -/

/-- The backlight state (R130). -/
inductive Backlight where
  | off
  | poweringUp
  | on
  | poweringDown
  | thermalOff
  | latchedOff
  deriving DecidableEq, Repr

/-- The sequencer's phase (R130): for UP the lines still to be started and the line that got the last start order. -/
inductive Sequencer where
  | idle
  | up (toStart : List LineNo) (last : LineNo)
  | draining
  | dropping
  deriving DecidableEq, Repr

/-- The thermal state (R137). -/
inductive Thermal where
  | normal
  | warm
  | hot
  | shutdown
  deriving DecidableEq, Repr

/-- The supply state (R140). -/
inductive Supply where
  | ok
  | low
  | uv
  deriving DecidableEq, Repr

/-- How an overcurrent trip is released (R143). -/
inductive ReleaseMode where
  | manual
  | nextScan
  | timed
  deriving DecidableEq, Repr

/-- An unreleased overcurrent trip: its mode and the microsecond ticks since it (R142, R143). -/
structure Trip where
  mode : ReleaseMode
  elapsed : Nat
  deriving DecidableEq, Repr

/-- Protection and Sequencing. `sinceLatch` is the time since the latest LATCH end, absent before the first one (R142). -/
structure Protection where
  backlight : Backlight
  target : Bool
  sequencer : Sequencer
  stepTimer : Timer
  codes : SampleSet
  thermal : Thermal
  coolDown : Nat
  shutdownHistory : List Word
  supply : Supply
  uvLatch : Bool
  filterCount : Nat
  trip : Option Trip
  tripHistory : List Word
  sinceLatch : Option Nat
  deriving DecidableEq, Repr

/-! ### Command ring, tables, reports (chapter 9) -/

/-- Where a load stands: waiting to begin (R160), or fetching with the beats received, the CRC-16 so far, and the beat
kept until the entry it belongs to is whole (R161). -/
inductive LoadPhase where
  | waiting
  | fetching (beats : Nat) (crc : BitVec 16) (kept : Beat)
  deriving DecidableEq, Repr

/-- A LOAD_TABLE that has passed its checks (R159). -/
structure Load where
  table : TableId
  offset : Nat
  count : Nat
  clamped : Bool
  source : Word
  crc : BitVec 16
  phase : LoadPhase
  deriving DecidableEq, Repr

/-- The command being executed: its snapshot (R152), the injected requests it has still to offer, in order (R154, R161),
and its load if it is a LOAD_TABLE that has not ended. Byte `j` of a slot is bits `8 j + 7 .. 8 j`. -/
structure Command where
  snapshot : BitVec 1024
  offers : List Injected
  load : Option Load
  deriving DecidableEq, Repr

/-- The Command Ring (R150 to R152): IDLE when no command is executing. -/
structure Ring where
  shadows : Vector (BitVec 1024) 16
  pendingSlots : BitVec 16
  index : CommandNo
  executing : Option Command
  deriving DecidableEq, Repr

/-- States and contents of the six tables (R158). Records are kept as the little-endian images of section 10.4. -/
structure Tables where
  zoneMapState : TableState
  calibrationState : TableState
  lineSetupState : TableState
  setAState : TableState
  setBState : TableState
  limitsState : TableState
  zoneMap : ZoneTable Word (0#32)
  calibration : ZoneTable (BitVec 16) (1024#16)
  lineSetup : Vector (BitVec 128) 16
  setA : BitVec 1024
  setB : BitVec 1024
  limits : BitVec 512
  deriving DecidableEq, Repr

/-- Kinds of event record (R167, section 10.7). -/
inductive EventKind where
  | lineRunning
  | lineFaulted
  | lineLocked
  | zoneOpen
  | zoneShort
  | driverHot
  | ocTrip
  | ocReleased
  | thermalState
  | supplyLow
  | supplyUv
  | supplyOk
  | fallbackEnter
  | fallbackExit
  | backlightState
  | tableInvalid
  deriving DecidableEq, Repr

/-- The subject of an event record (R167). -/
inductive Subject where
  | none
  | zone (z : Nat)
  | line (l : LineNo)
  | window (w : WindowNo)
  | table (t : TableId)
  deriving DecidableEq, Repr

/-- An event record (R167). -/
structure Event where
  kind : EventKind
  time : Word
  subject : Subject
  detail : BitVec 16
  deriving DecidableEq, Repr

/-- The accrued flags (R165). -/
inductive Flag where
  | tear
  | blind
  | dropped
  | aborted
  | partialPixel
  | late
  | hold
  | fallbackSeen
  | budgetLimited
  | boostLimited
  | clipped
  | lineError
  | ocTrip
  | uvSeen
  | eventOverrun
  deriving DecidableEq, Repr

/-! ### The whole part -/

/-- The state of the part. `pending` is the queue of commands that wait, and `freeCount` numbers the free values used;
both are the model's own (assumptions 1 and 3). Accrued flag bits stand as in section 10.6. -/
structure State where
  pending : List Instr
  resetAsserted : Bool
  cfg : BitVec 3
  ms : Word
  link : LinkPath
  windows : Vector Window 4
  buffers : Vector Buffer 4
  queue : List WindowNo
  grid : Grid
  banks : Vector Bank 2
  engine : Engine
  history : History
  results : Vector Result 5
  drive : ZoneTable DriveEntry DriveEntry.reset
  scan : ScanTracker
  lines : Vector Line 16
  faults : FaultMap
  protection : Protection
  ring : Ring
  tables : Tables
  events : List Event
  accrued : BitVec 15
  freeCount : Nat
  deriving DecidableEq, Repr

/-- A step that the part cannot take. -/
inductive Fault where
  /-- Raised by ANALYSIS_START when the head of the queue is QUEUED and all five result slots are taken. R77's law says
  that this never is so, and the law holds in every state of the model; the answer is there because a function must have
  one. Safe: nothing is claimed of a next state. -/
  | noFreeResultSlot
  deriving DecidableEq, Repr

/-- Why a command has no meaning in this model. -/
inductive Refusal where
  /-- Raised by an `exec` arm whose command has no meaning yet. No arm raises it now. Safe: nothing is claimed. -/
  | notModelled (mnemonic : String)
  deriving DecidableEq, Repr

/-- The outcome of a command. -/
abbrev Out := Host.Outcome State Fault Refusal

/-! ### RESET_N -/

/-- The Link Path at RESET_N (R19). -/
def LinkPath.reset : LinkPath :=
  { upstream := .down, downstream := .down, credits := 0, forward := [], injected := [], waitCount := 0, tracking := [],
    sentDown := [], sentUp := [] }

/-- A window record after RESET_N (R20). -/
def Window.reset : Window :=
  { enable := false, base := 0, pitch := 0, width := 0, height := 0, format := .rgb10, writerMatch := 0, writerMask := 0,
    scanMatch := 0, scanMask := 0, compensation := false, hueClip := false }

/-- A buffer record after RESET_N (R24). -/
def Buffer.reset : Buffer := { state := .disabled, written := 0 }

/-- The grid after RESET_N (R41). -/
def Grid.reset : Grid := { columns := 1, rows := 1, leadLines := 0 }

/-- A bank after RESET_N (R46). -/
def Bank.reset : Bank := { threshold := 0, zones := ZoneTable.empty }

/-- The History Table after RESET_N (R70). -/
def History.reset : History := { valid := false, mean := 0, zones := ZoneTable.empty }

/-- The engine after RESET_N (R53). -/
def Engine.reset : Engine := { tag := 0, analysis := none, selected := .a }

/-- The Scan Tracker after RESET_N (R81). -/
def ScanTracker.reset : ScanTracker :=
  { pointer := none, result := none, progress := 0, passed := 0, committed := 0, fallback := .normal,
    supervision := .stopped }

/-- Protection and Sequencing after RESET_N (R130, R136 to R143). -/
def Protection.reset : Protection :=
  { backlight := .off, target := false, sequencer := .idle, stepTimer := .stopped,
    codes := { vled := 0, tb0 := 0, tb1 := 0, tdie := 0 }, thermal := .normal, coolDown := 0, shutdownHistory := [],
    supply := .ok, uvLatch := false, filterCount := 0, trip := none, tripHistory := [], sinceLatch := none }

/-- The Command Ring after RESET_N (R150, R151, R156). -/
def Ring.reset : Ring :=
  { shadows := Vector.replicate 16 0, pendingSlots := 0, index := 0, executing := none }

/-- The tables after RESET_N (R158). -/
def Tables.reset : Tables :=
  { zoneMapState := .invalid, calibrationState := .invalid, lineSetupState := .invalid, setAState := .invalid,
    setBState := .invalid, limitsState := .invalid, zoneMap := ZoneTable.empty, calibration := ZoneTable.empty,
    lineSetup := Vector.replicate 16 0, setA := 0, setB := 0, limits := 0 }

/-- The part with RESET_N asserted and no command waiting: what the assertion leaves in every block, before the release
samples the straps (assumption 2). -/
def State.reset : State :=
  { pending := [], resetAsserted := true, cfg := 0, ms := 0, link := LinkPath.reset,
    windows := Vector.replicate 4 Window.reset, buffers := Vector.replicate 4 Buffer.reset, queue := [],
    grid := Grid.reset, banks := Vector.replicate 2 Bank.reset, engine := Engine.reset, history := History.reset,
    results := Vector.replicate 5 Result.unwritten, drive := ZoneTable.empty, scan := ScanTracker.reset,
    lines := Vector.replicate 16 Line.reset, faults := { openMarks := 0, shortMarks := 0 },
    protection := Protection.reset, ring := Ring.reset, tables := Tables.reset, events := [], accrued := 0,
    freeCount := 0 }

end Sys2Proof.Machine
end

