-- ==== Sys2Proof/Machine/Operands.lean ====
section
/-! DEFINITION. How the part reads what it is given: pixel words, beats, slots, table records (chapter 10), and the values
that are in force at a moment because a table is VALID or not (R47, R56, R107, R108, R148) or because of the state of
Protection (R145, R146). -/

namespace Sys2Proof.Machine

/-! ### Beats and pixel words -/

/-- Pixel word `k` of a beat (R170). -/
def pixelWord (d : Beat) (k : Nat) : Word := d.extractLsb' (32 * k) 32

/-- The four byte enables of pixel word `k` (R170). -/
def wordEnables (en : Enables) (k : Nat) : BitVec 4 := en.extractLsb' (4 * k) 4

/-- The beat whose pixel word `k` is `f k`. -/
def beatOfWords (f : Nat → Word) : Beat := f 7 ++ f 6 ++ f 5 ++ f 4 ++ f 3 ++ f 2 ++ f 1 ++ f 0

/-- The three colour fields of a pixel word, red, green, blue (section 10.2). -/
def colours (fmt : PixelFormat) (w : Word) : Nat × Nat × Nat :=
  match fmt with
  | .rgb10 => ((w.extractLsb' 20 10).toNat, (w.extractLsb' 10 10).toNat, (w.extractLsb' 0 10).toNat)
  | .rgb8 => ((w.extractLsb' 16 8).toNat, (w.extractLsb' 8 8).toNat, (w.extractLsb' 0 8).toNat)

/-- The pixel word with its colour fields replaced and every other bit kept (section 10.2, R96). -/
def putColours (fmt : PixelFormat) (w : Word) (r g b : Nat) : Word :=
  match fmt with
  | .rgb10 => w.extractLsb' 30 2 ++ BitVec.ofNat 10 r ++ BitVec.ofNat 10 g ++ BitVec.ofNat 10 b
  | .rgb8 => w.extractLsb' 24 8 ++ BitVec.ofNat 8 r ++ BitVec.ofNat 8 g ++ BitVec.ofNat 8 b

/-- The bits of a beat whose bytes are enabled. -/
def laneMask (en : Enables) : Beat :=
  (List.range 32).foldl (fun m j => if en.getLsbD j then m ||| (255#256 <<< (8 * j)) else m) 0#256

/-- `old` with the enabled bytes of `new` in place of its own (R150). -/
def mergeLanes (en : Enables) (old new : Beat) : Beat := (old &&& ~~~(laneMask en)) ||| (new &&& laneMask en)

/-- Byte `j` of a beat. -/
def beatByte (d : Beat) (j : Nat) : Byte := d.extractLsb' (8 * j) 8

/-- The first `n` bytes of a beat, in address order. -/
def beatBytes (d : Beat) (n : Nat) : List Byte := (List.range n).map (beatByte d)

/-- Little-endian fields `(offset, size in bytes, value)` laid into an otherwise zero image (R170, R171). -/
def packFields (n : Nat) (fields : List (Nat × Nat × Nat)) : BitVec n :=
  fields.foldl (fun acc f => acc ||| (BitVec.ofNat n (f.2.2 % 2 ^ (8 * f.2.1)) <<< (8 * f.1))) (BitVec.ofNat n 0)

/-- The little-endian field of `size` bytes at byte `offset` of an image (R170). -/
def field {n : Nat} (image : BitVec n) (offset size : Nat) : Nat := (image.extractLsb' (8 * offset) (8 * size)).toNat

/-! ### Command slots (section 10.3) -/

/-- The quarter `q` of a 128-byte slot. -/
def slotBeat (slot : BitVec 1024) (q : Nat) : Beat := slot.extractLsb' (256 * q) 256

/-- The slot with quarter `q` replaced. -/
def putSlotBeat (slot : BitVec 1024) (q : Nat) (d : Beat) : BitVec 1024 :=
  (slot &&& ~~~((BitVec.allOnes 256).setWidth 1024 <<< (256 * q))) ||| (d.setWidth 1024 <<< (256 * q))

/-- The command code in the header. -/
def commandCode (snap : BitVec 1024) : Nat := field snap 0 2

/-- The parameter length in the header. -/
def paramLength (snap : BitVec 1024) : Nat := field snap 2 2

/-- A parameter field: parameter offset 0 is slot offset +4. -/
def param (snap : BitVec 1024) (offset size : Nat) : Nat := field snap (4 + offset) size

/-- The sequence: the low byte of the commit word (R154). -/
def sequenceOf (snap : BitVec 1024) : Nat := field snap 124 1

/-- The parameter block that each command code needs, absent when the code names no command (section 10.3). -/
def blockSize (code : Nat) : Option Nat :=
  match code with
  | 1 => some 20
  | 2 => some 4
  | 3 => some 8
  | 4 => some 4
  | 5 => some 4
  | 6 => some 12
  | 7 => some 4
  | 8 => some 4
  | 9 => some 4
  | _ => none

/-- The table that a table code names (section 10.3). -/
def tableOfCode (code : Nat) : Option TableId :=
  match code with
  | 1 => some .zoneMap
  | 2 => some .calibration
  | 3 => some .lineSetup
  | 4 => some .setA
  | 5 => some .setB
  | 6 => some .limits
  | _ => none

/-! ### Codes (sections 10.3 to 10.7) -/

/-- Table code. -/
def tableCode : TableId → Nat
  | .zoneMap => 1
  | .calibration => 2
  | .lineSetup => 3
  | .setA => 4
  | .setB => 5
  | .limits => 6

/-- Table state code. -/
def tableStateCode : TableState → Nat
  | .invalid => 0
  | .loading => 1
  | .valid => 2

/-- Backlight state code. -/
def backlightCode : Backlight → Nat
  | .off => 0
  | .poweringUp => 1
  | .on => 2
  | .poweringDown => 3
  | .thermalOff => 4
  | .latchedOff => 5

/-- Sequencer phase code. -/
def sequencerCode : Sequencer → Nat
  | .idle => 0
  | .up _ _ => 1
  | .draining => 2
  | .dropping => 3

/-- Thermal state code. -/
def thermalCode : Thermal → Nat
  | .normal => 0
  | .warm => 1
  | .hot => 2
  | .shutdown => 3

/-- Supply state code. -/
def supplyCode : Supply → Nat
  | .ok => 0
  | .low => 1
  | .uv => 2

/-- Release mode code. -/
def releaseCode : ReleaseMode → Nat
  | .manual => 0
  | .nextScan => 1
  | .timed => 2

/-- Line state code. -/
def lineStateCode : LineState → Nat
  | .off => 0
  | .waitSlot => 1
  | .starting => 2
  | .running => 3
  | .faulted => 4
  | .locked => 5

/-- Selected set code. -/
def setCode : SetId → Nat
  | .a => 0
  | .b => 1

/-- Set-used code of a result. -/
def setUsedCode : SetUsed → Nat
  | .setA => 0
  | .setB => 1
  | .builtin => 2

/-- Fallback state code. -/
def fallbackCode : FallbackState → Nat
  | .normal => 0
  | .fallback => 1

/-- Event kind code. -/
def eventCode : EventKind → Nat
  | .lineRunning => 0x01
  | .lineFaulted => 0x02
  | .lineLocked => 0x03
  | .zoneOpen => 0x04
  | .zoneShort => 0x05
  | .driverHot => 0x06
  | .ocTrip => 0x07
  | .ocReleased => 0x08
  | .thermalState => 0x09
  | .supplyLow => 0x0A
  | .supplyUv => 0x0B
  | .supplyOk => 0x0C
  | .fallbackEnter => 0x0D
  | .fallbackExit => 0x0E
  | .backlightState => 0x0F
  | .tableInvalid => 0x10

/-- Subject type code. -/
def subjectType : Subject → Nat
  | .none => 0
  | .zone _ => 1
  | .line _ => 2
  | .window _ => 3
  | .table _ => 4

/-- Subject field. -/
def subjectField : Subject → Nat
  | .none => 0
  | .zone z => z
  | .line l => l.val
  | .window w => w.val
  | .table t => tableCode t

/-- Frame type byte (section 10.8). -/
def frameCode : FrameKind → Nat
  | .setup => 1
  | .level => 2
  | .latch => 3
  | .poll => 4

/-! ### ZONE_MAP entries (section 10.4) -/

/-- A channel of a driver on a line (R108). -/
structure ChannelId where
  line : LineNo
  position : Fin 24
  channel : Fin 16
  deriving DecidableEq, Repr

/-- Whether a ZONE_MAP entry is mapped. -/
def entryMapped (w : Word) : Bool := w.getLsbD 0

/-- The channel a mapped ZONE_MAP entry names, when its three bytes lie in their ranges. -/
def entryChannel (w : Word) : Option ChannelId :=
  if entryMapped w then
    if h : field w 1 1 < 16 ∧ field w 2 1 < 24 ∧ field w 3 1 < 16 then
      some { line := ⟨field w 1 1, h.1⟩, position := ⟨field w 2 1, h.2.1⟩, channel := ⟨field w 3 1, h.2.2⟩ }
    else none
  else none

/-- The bit of a channel in a line's flag words. -/
def channelBit (p k : Nat) : Nat := 16 * p + k

/-- All channels of the positions below `n`. -/
def channelsBelow (n : Nat) : BitVec 384 := BitVec.ofNat 384 (2 ^ (16 * n) - 1)

/-- All channels of position `p`. -/
def channelsAt (p : Nat) : BitVec 384 := BitVec.ofNat 384 (0xFFFF * 2 ^ (16 * p))

/-- The 16 channel flags of position `p`. -/
def positionFlags (flags : BitVec 384) (p : Nat) : BitVec 16 := flags.extractLsb' (16 * p) 16

/-- The number of zones of the grid in force (R41). -/
def Grid.zones (g : Grid) : Nat := g.columns * g.rows

/-- The channel of zone `z`, when ZONE_MAP is VALID and the zone is mapped (R80, R108). -/
def State.zoneChannel (s : State) (z : Nat) : Option ChannelId :=
  if s.tables.zoneMapState = .valid then entryChannel (s.tables.zoneMap.get z) else none

/-- The zone that channel `k` of position `p` of line `l` lights, if it is mapped (R108). -/
def State.channelZone (s : State) (l : LineNo) (p k : Nat) : Option Nat :=
  (List.range s.grid.zones).find? fun z =>
    match s.zoneChannel z with
    | some c => c.line == l && c.position.val == p && c.channel.val == k
    | none => false

/-! ### LINE_SETUP records (R107) -/

/-- A line's driver count, 0 to 24. -/
def State.driverCount (s : State) (l : LineNo) : Nat := clampTo 0 24 (field s.tables.lineSetup[l] 0 1)

/-- A line's rate in Mbit/s; a code that names none of the three is taken as 5. -/
def State.lineRate (s : State) (l : LineNo) : Nat :=
  match field s.tables.lineSetup[l] 1 1 with
  | 1 => 10
  | 2 => 20
  | _ => 5

/-- A line's return window in microseconds, 1 to 255. -/
def State.returnWindow (s : State) (l : LineNo) : Nat := clampTo 1 255 (field s.tables.lineSetup[l] 2 1)

/-- A line's current range, 0 to 3. -/
def State.currentRange (s : State) (l : LineNo) : Nat := clampTo 0 3 (field s.tables.lineSetup[l] 3 1)

/-- A line's phase step, 0 to 4095. -/
def State.phaseStep (s : State) (l : LineNo) : Nat := clampTo 0 4095 (field s.tables.lineSetup[l] 4 2)

/-- A line's phase offset, 0 to 4095. -/
def State.phaseOffset (s : State) (l : LineNo) : Nat := clampTo 0 4095 (field s.tables.lineSetup[l] 6 2)

/-- A line's poll interval in milliseconds, 10 to 1000. -/
def State.pollInterval (s : State) (l : LineNo) : Nat := clampTo 10 1000 (field s.tables.lineSetup[l] 8 2)

/-- A line's retry delay in milliseconds, 10 to 2000. -/
def State.retryDelay (s : State) (l : LineNo) : Nat := clampTo 10 2000 (field s.tables.lineSetup[l] 10 2)

/-! ### LIMITS (R148) -/

/-- How an undervoltage ends (R141). -/
inductive UvMode where
  | auto
  | latched
  deriving DecidableEq, Repr

/-- The LIMITS values in force. -/
structure Limits where
  budgetNormal : Nat
  warmCap : Nat
  supplyCap : Nat
  safeDuty : Nat
  fallbackDuty : Nat
  scanTimeout : Nat
  warm : Nat
  hot : Nat
  shutdown : Nat
  dieLimit : Nat
  thermalHysteresis : Nat
  low : Nat
  uv : Nat
  vledHysteresis : Nat
  uvMode : UvMode
  ocMode : ReleaseMode
  ocFilter : Nat
  blankUs : Nat
  slotUs : Nat
  criticalLevel : Nat
  deriving DecidableEq, Repr

/-- The defaults of R148. -/
def defaultLimits : Limits :=
  { budgetNormal := Config.fullBudget, warmCap := Config.fullBudget, supplyCap := Config.fullBudget, safeDuty := 1024,
    fallbackDuty := 1024, scanTimeout := 100, warm := 2800, hot := 3200, shutdown := 3600, dieLimit := 3700,
    thermalHysteresis := 100, low := 0, uv := 0, vledHysteresis := 0, uvMode := .auto, ocMode := .manual, ocFilter := 4,
    blankUs := 20, slotUs := 1000, criticalLevel := 24 }

/-- The LIMITS record's values, each field at the nearest bound of its range, a code that names no choice at its default. -/
def limitsOf (image : BitVec 512) : Limits :=
  { budgetNormal := clampTo 0 Config.fullBudget (field image 0x00 4)
    warmCap := clampTo 0 Config.fullBudget (field image 0x04 4)
    supplyCap := clampTo 0 Config.fullBudget (field image 0x08 4)
    safeDuty := clampTo 0 4095 (field image 0x0C 2)
    fallbackDuty := clampTo 0 4095 (field image 0x0E 2)
    scanTimeout := clampTo 20 1000 (field image 0x10 2)
    warm := clampTo 0 4095 (field image 0x12 2)
    hot := clampTo 0 4095 (field image 0x14 2)
    shutdown := clampTo 0 4095 (field image 0x16 2)
    dieLimit := clampTo 0 4095 (field image 0x18 2)
    thermalHysteresis := clampTo 0 4095 (field image 0x1A 2)
    low := clampTo 0 4095 (field image 0x1C 2)
    uv := clampTo 0 4095 (field image 0x1E 2)
    vledHysteresis := clampTo 0 4095 (field image 0x20 2)
    uvMode := if field image 0x22 1 = 1 then .latched else .auto
    ocMode := match field image 0x23 1 with
      | 1 => .nextScan
      | 2 => .timed
      | _ => .manual
    ocFilter := clampTo 1 64 (field image 0x24 1)
    blankUs := clampTo 0 255 (field image 0x25 1)
    slotUs := match field image 0x26 1 with
      | 0 => 250
      | 1 => 500
      | 3 => 4000
      | _ => 1000
    criticalLevel := clampTo 1 32 (field image 0x27 1) }

/-- The LIMITS values in force: the record's while it is VALID, the defaults all together while it is not (R148). -/
def State.limits (s : State) : Limits :=
  if s.tables.limitsState = .valid then limitsOf s.tables.limits else defaultLimits

/-- The duty ceiling (R145). -/
def State.ceiling (s : State) : Nat :=
  if s.protection.backlight = .poweringDown then 0
  else if s.protection.thermal = .hot then s.limits.safeDuty
  else 4095

/-- The budget cap (R146). -/
def State.budgetCap (s : State) : Nat :=
  let warmPart := if s.protection.thermal = .normal then Config.fullBudget else s.limits.warmCap
  let supplyPart := if s.protection.supply = .ok then Config.fullBudget else s.limits.supplyCap
  min s.limits.budgetNormal (min warmPart supplyPart)

/-! ### Parameter sets (R56, R73, R75) -/

/-- The 16-bit field at byte `offset` of a set record (section 10.4). -/
def setField (image : BitVec 1024) (offset : Nat) : Nat := field image offset 2

/-- A set record's fields, each at the nearest bound of its range, K[0][0] taken as 256 (R56). -/
def paramsOf (image : BitVec 1024) : ParamSet :=
  { mixK := clampTo 0 16 (setField image 0x00)
    mixKSmall := clampTo 0 16 (setField image 0x02)
    brightThreshold := clampTo 0 1023 (setField image 0x04)
    minBrightArea := clampTo 0 65535 (setField image 0x06)
    curve := (List.range 33).map fun i => clampTo 0 4095 (setField image (0x08 + 2 * i))
    minLevel := clampTo 0 4095 (setField image 0x4A)
    halo := (List.range 9).map fun i => if i = 0 then 256 else clampTo 0 256 (setField image (0x4C + 2 * i))
    sustainLevel := clampTo 0 4095 (setField image 0x5E)
    boostFrames := clampTo 0 255 (setField image 0x60)
    coolStep := clampTo 1 255 (setField image 0x62)
    upRate := clampTo 1 16 (setField image 0x64)
    downRate := clampTo 1 16 (setField image 0x66)
    cutThreshold := clampTo 0 1023 (setField image 0x68)
    spread := (List.range 9).map fun i => clampTo 0 4095 (setField image (0x6A + 2 * i))
    eRef := clampTo 1 65535 (setField image 0x7C)
    gainCeiling := clampTo 256 4096 (setField image 0x7E) }

/-- The built-in default set (R75), with S[0][0] = 4096 taken as 4095 by R56. -/
def defaultParams : ParamSet :=
  { mixK := 8, mixKSmall := 4, brightThreshold := 768, minBrightArea := 16,
    curve := (List.range 33).map fun i => min 4095 (128 * i),
    minLevel := 0,
    halo := [256, 128, 64, 128, 96, 32, 64, 32, 16],
    sustainLevel := 4095, boostFrames := 255, coolStep := 1, upRate := 8, downRate := 4, cutThreshold := 256,
    spread := [clampTo 0 4095 4096, 0, 0, 0, 0, 0, 0, 0, 0],
    eRef := 4095, gainCeiling := 1024 }

/-- State of the selected set's table. -/
def State.selectedState (s : State) : TableState :=
  match s.engine.selected with
  | .a => s.tables.setAState
  | .b => s.tables.setBState

/-- The set an analysis that starts now uses: the selected set if it is VALID, otherwise the default set (R55). -/
def State.paramsInForce (s : State) : ParamSet :=
  if s.selectedState = .valid then
    match s.engine.selected with
    | .a => paramsOf s.tables.setA
    | .b => paramsOf s.tables.setB
  else defaultParams

/-- What a result records as the set used (R55). -/
def State.setUsedNow (s : State) : SetUsed :=
  if s.selectedState = .valid then
    match s.engine.selected with
    | .a => .setA
    | .b => .setB
  else .builtin

/-! ### Tables by name (R158) -/

/-- The state of a table. -/
def Tables.stateOf (t : Tables) : TableId → TableState
  | .zoneMap => t.zoneMapState
  | .calibration => t.calibrationState
  | .lineSetup => t.lineSetupState
  | .setA => t.setAState
  | .setB => t.setBState
  | .limits => t.limitsState

/-- Whether the table is an array; the others are records of one entry (R158). -/
def tableIsArray : TableId → Bool
  | .zoneMap => true
  | .calibration => true
  | .lineSetup => true
  | .setA => false
  | .setB => false
  | .limits => false

/-- Bytes of one entry (R158). -/
def entrySize : TableId → Nat
  | .zoneMap => 4
  | .calibration => 2
  | .lineSetup => 16
  | .setA => 128
  | .setB => 128
  | .limits => 64

/-- The table end (R158). -/
def State.tableEnd (s : State) : TableId → Nat
  | .zoneMap => s.grid.zones
  | .calibration => s.grid.zones
  | .lineSetup => 16
  | .setA => 1
  | .setB => 1
  | .limits => 1

/-! ### Buffers, banks and slots -/

/-- The bank a buffer record holds (R24). -/
def BufferState.bank : BufferState → Option BankNo
  | .filling b => some b
  | .queued b => some b
  | .analysing b => some b
  | .disabled | .idle | .blind | .ready _ | .shown _ => none

/-- The result reference a buffer record holds (R24). -/
def BufferState.result : BufferState → Option SlotNo
  | .ready k => some k
  | .shown k => some k
  | .disabled | .idle | .blind | .filling _ | .queued _ | .analysing _ => none

/-- Whether some buffer record holds the bank; a bank that none holds is free (R27, R46). -/
def State.bankHeld (s : State) (b : BankNo) : Bool :=
  (List.finRange 4).any fun w => s.buffers[w].state.bank == some b

/-- The lowest-numbered free bank (R27). -/
def State.freeBank (s : State) : Option BankNo := (List.finRange 2).find? fun b => !s.bankHeld b

/-- Whether a result slot has a holder: the analysis in progress, a buffer record or the scan (R76). -/
def State.slotTaken (s : State) (k : SlotNo) : Bool :=
  (match s.engine.analysis with
    | some a => a.slot == k
    | none => false)
  || ((List.finRange 4).any fun w => s.buffers[w].state.result == some k)
  || s.scan.result == some k

/-- The lowest-numbered free result slot (R77). -/
def State.freeSlot (s : State) : Option SlotNo := (List.finRange 5).find? fun k => !s.slotTaken k

end Sys2Proof.Machine
end

