-- ==== Sys2Proof/Machine/Flags.lean ====
section
/-! DEFINITION. The accrued flags (R165) and the output pins whose level rules derive from other state: LEN (R106),
BL_OFF_N (R144) and ALERT_N (R169). -/

namespace Sys2Proof.Machine

/-- The bit of an accrued flag (section 10.6). -/
def flagBit : Flag → Nat
  | .tear => 0
  | .blind => 1
  | .dropped => 2
  | .aborted => 3
  | .partialPixel => 4
  | .late => 5
  | .hold => 6
  | .fallbackSeen => 7
  | .budgetLimited => 8
  | .boostLimited => 9
  | .clipped => 10
  | .lineError => 11
  | .ocTrip => 12
  | .uvSeen => 13
  | .eventOverrun => 14

/-- Sets an accrued flag; setting a flag that is set leaves it set (R165). -/
def State.setFlag (f : Flag) (s : State) : State := { s with accrued := s.accrued ||| BitVec.twoPow 15 (flagBit f) }

/-- Sets an accrued flag if a condition holds. -/
def State.setFlagIf (c : Bool) (f : Flag) (s : State) : State := if c then s.setFlag f else s

/-- Whether an accrued flag is set. -/
def State.flag (s : State) (f : Flag) : Bool := s.accrued.getLsbD (flagBit f)

/-- Whether a line's enable output is high (R106). -/
def LineState.enabled : LineState → Bool
  | .waitSlot => true
  | .starting => true
  | .running => true
  | .off => false
  | .faulted => false
  | .locked => false

/-- The level of the pin LEN of a line (R106). -/
def State.len (s : State) (l : LineNo) : Bool := s.lines[l].state.enabled

/-- Whether the supply UV assertion is in force (R141). -/
def State.uvAsserted (s : State) : Bool := s.protection.supply == .uv || s.protection.uvLatch

/-- Whether BL_OFF_N is driven low (R144). -/
def State.blanked (s : State) : Bool :=
  s.protection.backlight == .off || s.protection.backlight == .thermalOff || s.protection.backlight == .latchedOff
  || s.protection.trip.isSome || s.uvAsserted

/-- Whether ALERT_N is driven low (R169). -/
def State.alerted (s : State) : Bool :=
  decide (s.limits.criticalLevel ≤ s.events.length)
  || s.protection.backlight == .latchedOff
  || ((List.finRange 16).any fun l => s.lines[l].state == .locked)
  || (match s.protection.trip with
      | some t => t.mode == .manual
      | none => false)

end Sys2Proof.Machine
end

