-- ==== Sys2Proof/Machine/Ops.lean ====
section
/-! DEFINITION. The operations that several commands share: replacing one record, adding an event, marking channels dirty,
the passing of a millisecond and of a microsecond, the orders to lines, the changes of backlight state and duty ceiling,
and the release of an overcurrent trip. -/

namespace Sys2Proof.Machine

/-! ### One record replaced -/

/-- Replaces the line record of `l` by `f` of it. -/
def State.modifyLine (l : LineNo) (f : Line → Line) (s : State) : State :=
  { s with lines := s.lines.set l (f s.lines[l]) }

/-- Replaces a buffer record. -/
def State.setBuffer (w : WindowNo) (b : Buffer) (s : State) : State := { s with buffers := s.buffers.set w b }

/-- Replaces a statistics bank. -/
def State.setBank (b : BankNo) (k : Bank) (s : State) : State := { s with banks := s.banks.set b k }

/-- Applies an operation on one line to each of DL0 to DL15 in turn. -/
def forLines (f : LineNo → State → State) (s : State) : State := (List.finRange 16).foldl (fun t l => f l t) s

/-- Does `f` unless RESET_N is asserted: while it is, nothing is received, sent, built or executed (R19, R106). -/
def State.whenLive (f : State → State) (s : State) : State := if s.resetAsserted then s else f s

/-! ### Events (R167) -/

/-- Adds an event record at the tail. When the queue is full the oldest record is discarded and EVENT_OVERRUN is set. -/
def State.addEvent (kind : EventKind) (subject : Subject) (detail : Nat) (s : State) : State :=
  let e : Event := { kind := kind, time := s.ms, subject := subject, detail := BitVec.ofNat 16 detail }
  { s.setFlagIf (decide (Config.eventDepth ≤ s.events.length)) .eventOverrun with
    events := s.events.drop (s.events.length - (Config.eventDepth - 1)) ++ [e] }

/-! ### Dirty channels (R80, R116) -/

/-- Marks channels of a line dirty, and the line owes a LATCH. -/
def State.markChannels (l : LineNo) (mask : BitVec 384) (s : State) : State :=
  s.modifyLine l fun x => { x with dirty := x.dirty ||| mask, latchOwed := true }

/-- Marks the channel of zone `z`, if the zone is mapped (R80). -/
def State.markZone (z : Nat) (s : State) : State :=
  match s.zoneChannel z with
  | some c => s.markChannels c.line (BitVec.twoPow 384 (channelBit c.position.val c.channel.val))
  | none => s

/-- Writes entry `z` of the Zone Drive Table; a changed duty marks the zone's channel (R79, R80). -/
def State.writeDrive (z : Nat) (e : DriveEntry) (s : State) : State :=
  let changed := (s.drive.get z).duty ≠ e.duty
  let t := { s with drive := s.drive.set z e }
  if changed then t.markZone z else t

/-! ### The duty ceiling (R145, R116) -/

/-- What a ceiling change does to one line: on a RUNNING line every channel below the driver count becomes dirty, a LATCH
is owed and ceiling latched becomes no; a LATCH in flight is no longer one built after the most recent change. -/
def State.ceilingMark (l : LineNo) (s : State) : State :=
  if s.lines[l].state = .running then
    s.modifyLine l fun x =>
      { x with
        dirty := x.dirty ||| channelsBelow (s.driverCount l)
        latchOwed := true
        ceilingLatched := false
        inFlight := x.inFlight.map fun f => { f with afterCeiling := false } }
  else s

/-- Signals a ceiling change to every line if the ceiling is no longer `old`; a ceiling that has its old value signals
nothing (R145). -/
def State.settleCeiling (old : Nat) (s : State) : State := if s.ceiling = old then s else forLines State.ceilingMark s

/-! ### Orders to lines (R119, R121) -/

/-- The start order: an OFF or FAULTED line enters WAIT_SLOT; on any other line it has no effect (R119). -/
def State.startOrder (l : LineNo) (s : State) : State :=
  if s.lines[l].state = .off ∨ s.lines[l].state = .faulted then
    s.modifyLine l fun x =>
      { x with
        state := .waitSlot
        failures := 0
        dirty := 0
        latchOwed := false
        setupOwed := false
        pollDue := false
        hot := 0
        openSuspect := 0
        shortSuspect := 0
        ceilingLatched := true
        stateTimer := .running 0
        slotUs := s.limits.slotUs }
  else s

/-- A line whose frame in flight is abandoned: the return is not judged, the channels of a LEVEL are marked dirty again,
and a LATCH is owed again (R121). A marked channel makes the line owe a LATCH (R116). -/
def abandonFrame (x : Line) : Line :=
  match x.inFlight with
  | none => x
  | some f =>
    match f.kind with
    | .level => { x with inFlight := none, dirty := x.dirty ||| f.mask, latchOwed := true }
    | .latch => { x with inFlight := none, latchOwed := true }
    | .setup => { x with inFlight := none }
    | .poll => { x with inFlight := none }

/-- The stop order: a WAIT_SLOT, STARTING, RUNNING or FAULTED line becomes OFF; an OFF or LOCKED line is left (R121). -/
def State.stopOrder (l : LineNo) (s : State) : State :=
  if s.lines[l].state = .off ∨ s.lines[l].state = .locked then s
  else
    s.modifyLine l fun x =>
      { abandonFrame x with state := .off, stateTimer := .stopped, pollTimer := .stopped }

/-! ### The backlight state and the sequencer (R130 to R135) -/

/-- Changes the backlight state; each change adds BACKLIGHT_STATE with the new state as detail (R130). -/
def State.setBacklight (b : Backlight) (s : State) : State :=
  if s.protection.backlight = b then s
  else ({ s with protection := { s.protection with backlight := b } }).addEvent .backlightState .none (backlightCode b)

/-- Sets the sequencer phase and the step timer. -/
def State.setSequencer (q : Sequencer) (t : Timer) (s : State) : State :=
  { s with protection := { s.protection with sequencer := q, stepTimer := t } }

/-- Sets the target (R130). -/
def State.setTarget (on : Bool) (s : State) : State := { s with protection := { s.protection with target := on } }

/-- The used lines, in ascending order: driver count above 0 and not LOCKED (R133). -/
def State.usedLines (s : State) : List LineNo :=
  (List.finRange 16).filter fun l => decide (0 < s.driverCount l) && !(s.lines[l].state == .locked)

/-- The timer after a start order: STOPPED once no line is left to start, otherwise from 0 again (R133). -/
def stepTimerFor (rest : List LineNo) : Timer := if rest = [] then .stopped else .running 0

/-- The beginning of a power-up (R133). -/
def State.powerUpBegin (s : State) : State :=
  let t := s.setBacklight .poweringUp
  match t.usedLines with
  | [] => (t.setSequencer .idle .stopped).setBacklight .on
  | l :: rest => (t.setSequencer (.up rest l) (stepTimerFor rest)).startOrder l

/-- The highest-numbered RUNNING line (R135). -/
def State.highestRunning (s : State) : Option LineNo :=
  (List.finRange 16).reverse.find? fun l => s.lines[l].state == .running

/-- Whether every RUNNING line has ceiling latched yes (R135). -/
def State.drained (s : State) : Bool :=
  (List.finRange 16).all fun l => !(s.lines[l].state == .running) || s.lines[l].ceilingLatched

/-- The end of a power-down: sequencer IDLE, backlight OFF, ceiling back to its value for OFF (R135). -/
def State.powerDownEnd (s : State) : State :=
  ((s.setSequencer .idle .stopped).setBacklight .off).settleCeiling s.ceiling

/-- Stops the highest RUNNING line; the power-down ends if none is RUNNING after it, otherwise the step timer starts from
0 (R135). -/
def State.dropOne (s : State) : State :=
  match s.highestRunning with
  | none => s.powerDownEnd
  | some l =>
    let t := s.stopOrder l
    match t.highestRunning with
    | none => t.powerDownEnd
    | some _ => t.setSequencer .dropping (.running 0)

/-- The test R135 makes during a power-down: it ends when no line is RUNNING, and a drain that is complete turns to
dropping. Outside a power-down it does nothing. -/
def State.powerDownTest (s : State) : State :=
  match s.protection.sequencer with
  | .draining => if s.drained then s.dropOne else s
  | .dropping => if s.highestRunning = none then s.powerDownEnd else s
  | .idle => s
  | .up _ _ => s

/-- A line that is not RUNNING is stopped at the beginning of a power-down (R134). -/
def State.stopUnlessRunning (l : LineNo) (s : State) : State :=
  if s.lines[l].state = .running then s else s.stopOrder l

/-- The beginning of a power-down (R134), with its first test (R135). R134 does not say what the step timer does when a
power-up in progress is abandoned; the model stops it while draining (DESIGN CHOICE, assumption 25). -/
def State.powerDownBegin (s : State) : State :=
  let t := (s.setBacklight .poweringDown).setSequencer .draining .stopped
  (forLines State.stopUnlessRunning (t.settleCeiling s.ceiling)).powerDownTest

/-! ### Overcurrent release (R143) -/

/-- Releases an unreleased trip: OC_RELEASED with the mode as detail, and sampling resumes with the count at 0. -/
def State.releaseTrip (s : State) : State :=
  match s.protection.trip with
  | none => s
  | some t =>
    ({ s with protection := { s.protection with trip := none, filterCount := 0 } }).addEvent .ocReleased .none
      (releaseCode t.mode)

/-- Releases an unreleased trip of the given mode only. -/
def State.releaseTripOf (m : ReleaseMode) (s : State) : State :=
  match s.protection.trip with
  | none => s
  | some t => if t.mode = m then s.releaseTrip else s

/-! ### Time (assumption 6) -/

/-- A timer after one tick of its unit. -/
def Timer.tick : Timer → Timer
  | .stopped => .stopped
  | .running e => .running (e + 1)

/-- Whether a timer is RUNNING with at least `n` elapsed. -/
def Timer.reached (n : Nat) : Timer → Bool
  | .stopped => false
  | .running e => decide (n ≤ e)

/-- One millisecond on one line: the poll timer, and the retry delay of a FAULTED line. -/
def lineMs (x : Line) : Line :=
  { x with pollTimer := x.pollTimer.tick, stateTimer := if x.state = .faulted then x.stateTimer.tick else x.stateTimer }

/-- One microsecond on one line: the slot of a WAIT_SLOT line. -/
def lineUs (x : Line) : Line :=
  { x with stateTimer := if x.state = .waitSlot then x.stateTimer.tick else x.stateTimer }

/-- One millisecond passes: the millisecond counter, the supervision timer, the poll timers and the retry delays. -/
def State.tickMs (s : State) : State :=
  forLines (fun l => State.modifyLine l lineMs)
    { s with ms := s.ms + 1, scan := { s.scan with supervision := s.scan.supervision.tick } }

/-- One microsecond passes: the step timer, the WAIT_SLOT timers, the time since a trip and since the latest LATCH end. -/
def State.tickUs (s : State) : State :=
  forLines (fun l => State.modifyLine l lineUs)
    { s with
      protection :=
        { s.protection with
          stepTimer := s.protection.stepTimer.tick
          trip := s.protection.trip.map fun t => { t with elapsed := t.elapsed + 1 }
          sinceLatch := s.protection.sinceLatch.map (· + 1) } }

end Sys2Proof.Machine
end

