-- ==== Sys2Proof/Machine/Statistics.lean ====
section
/-! DEFINITION. Zones within a window, pixel luminance, and the counting of a beat into a statistics bank (chapter 3). -/

namespace Sys2Proof.Machine

/-- First pixel (or line) of column (or row) `i` of `n` over an extent of `size` pixels (R44). The end of `i`, exclusive,
is the first of `i + 1`. -/
def extentStart (n size i : Nat) : Nat := i * size / n

/-- The largest `i` below `n` whose `f i` is at most `x`, 0 if there is none. -/
def lastAtMost (n : Nat) (f : Nat → Nat) (x : Nat) : Nat :=
  (List.range n).foldl (fun best i => if f i ≤ x then i else best) 0

/-- The zone of pixel `x` on line `y` of a window of size `W` by `H` (R44). -/
def zoneAt (g : Grid) (W H x y : Nat) : Nat :=
  lastAtMost g.rows (extentStart g.rows H) y * g.columns + lastAtMost g.columns (extentStart g.columns W) x

/-- The luminance Y of a pixel word (R45). -/
def luminance (fmt : PixelFormat) (w : Word) : Nat :=
  let c := colours fmt w
  let m := max c.1 (max c.2.1 c.2.2)
  match fmt with
  | .rgb10 => m
  | .rgb8 => 4 * m + m / 64

/-- A per-zone record after one more pixel of luminance `y` (R49). -/
def ZoneStat.count (threshold y : Nat) (z : ZoneStat) : ZoneStat :=
  { peak := max z.peak y
    sum := z.sum + y
    bright := if threshold ≤ y then z.bright + 1 else z.bright
    pixels := z.pixels + 1 }

/-- A bank after one more pixel of luminance `y` in zone `z` (R49). -/
def Bank.countPixel (z y : Nat) (b : Bank) : Bank := { b with zones := b.zones.set z ((b.zones.get z).count b.threshold y) }

/-- The bright threshold in force (R47). -/
def State.brightThreshold (s : State) : Nat := s.paramsInForce.brightThreshold

/-- An emptied bank keeps its recorded threshold (R48). -/
def Bank.emptied (b : Bank) : Bank := { b with zones := ZoneTable.empty }

/-- Empties a bank and records the bright threshold in force, as at a claim or a rewrite (R47, R48). -/
def State.restartBank (b : BankNo) (s : State) : State :=
  s.setBank b { threshold := s.brightThreshold, zones := ZoneTable.empty }

/-- Empties a bank and keeps its threshold (R48). -/
def State.emptyBank (b : BankNo) (s : State) : State := s.setBank b s.banks[b].emptied

/-- The total count of a bank over the zones in force (R51). -/
def totalCount (g : Grid) (b : Bank) : Nat := ((List.range g.zones).map fun z => (b.zones.get z).pixels).sum

/-- The total sum of a bank over the zones in force (R51). -/
def totalSum (g : Grid) (b : Bank) : Nat := ((List.range g.zones).map fun z => (b.zones.get z).sum).sum

/-- The global mean of a bank; 0 when the total count is 0 (R51). -/
def globalMean (g : Grid) (b : Bank) : Nat := totalSum g b / totalCount g b

end Sys2Proof.Machine
end

