-- ==== Sys2Proof/Machine/Scan.lean ====
section
/-! DEFINITION. The Zone Drive Table's commits, scan starts, progress, late joins and fallback (chapter 5), and the meaning
of SUPERVISION_TIMER_EXPIRY. -/

namespace Sys2Proof.Machine

/-- The commit point of zone row `r` for a window of height `H` (R82). Subtraction on Nat is the max with 0. -/
def commitPoint (g : Grid) (H r : Nat) : Nat := extentStart g.rows H r - g.leadLines

/-- The number of zone rows whose commit points `progress` has reached (R82). -/
def rowsPassed (g : Grid) (H progress : Nat) : Nat :=
  ((List.range g.rows).filter fun r => decide (commitPoint g H r ≤ progress)).length

/-- The entry that a result gives zone `z`. -/
def Result.entry (r : Result) (z : Nat) : DriveEntry := { duty := r.duty.get z, gain := r.gain.get z }

/-- Commits zone row `row` of the result in slot `k` (R87). -/
def State.commitRow (k : SlotNo) (row : Nat) (s : State) : State :=
  (List.range s.grid.columns).foldl
    (fun t c => t.writeDrive (row * s.grid.columns + c) (s.results[k].entry (row * s.grid.columns + c))) s

/-- Commits rows `lo` to `hi - 1` of the result in slot `k`, in row order (R84, R86, R88). -/
def State.commitRows (k : SlotNo) (lo hi : Nat) (s : State) : State :=
  (List.range' lo (hi - lo)).foldl (fun t row => t.commitRow k row) s

/-- Leaves FALLBACK with FALLBACK_EXIT for the window and the tag of its result (R93); in NORMAL it does nothing. -/
def State.leaveFallback (w : WindowNo) (k : SlotNo) (s : State) : State :=
  match s.scan.fallback with
  | .normal => s
  | .fallback =>
    ({ s with scan := { s.scan with fallback := .normal } }).addEvent .fallbackExit (.window w) s.results[k].tag.toNat

/-- Ends the current scan without replacing it: pointer and result none, progress and row counts 0 (R89). -/
def State.endScan (s : State) : State :=
  { s with scan := { s.scan with pointer := none, result := none, progress := 0, passed := 0, committed := 0 } }

/-- Whether the current scan has passed every row of the grid (R81). -/
def State.scanComplete (s : State) : Bool := s.scan.passed == s.grid.rows

/-- Whether line `y` of window `w` is in zone row 0 (R83). -/
def State.inRowZero (s : State) (w : WindowNo) (y : Nat) : Bool := decide (y < extentStart s.grid.rows s.windows[w].height 1)

/-- Whether a scan-read beat on line `y` of window `w` is a scan start (R83). -/
def State.isScanStart (s : State) (w : WindowNo) (y : Nat) : Bool :=
  s.inRowZero w y && (s.scan.pointer != some w || (s.scanComplete && decide (y < s.scan.progress)))

/-- Step 1 of a scan start: the rows of the current scan's result not yet committed are committed (R84). -/
def State.flushScan (s : State) : State :=
  match s.scan.pointer, s.scan.result with
  | some _, some k => s.commitRows k s.scan.committed s.grid.rows
  | _, _ => s

/-- The buffer state after a scan start of its window: READY becomes SHOWN (R39). -/
def BufferState.onScanStart : BufferState → BufferState
  | .ready k => .shown k
  | .shown k => .shown k
  | .disabled => .disabled
  | .idle => .idle
  | .filling b => .filling b
  | .blind => .blind
  | .queued b => .queued b
  | .analysing b => .analysing b

/-- Whether the buffer is QUEUED or ANALYSING, so that a held scan is LATE (R85). -/
def BufferState.resultComing : BufferState → Bool
  | .queued _ => true
  | .analysing _ => true
  | .disabled | .idle | .filling _ | .blind | .ready _ | .shown _ => false

/-- Steps 2 and 3 of a scan start of window `w` at line `y`: pointer, result, buffer, progress and row counts (R84). A slot
that the old scan alone held is free from here on, since a slot's holders are those that name it (R76). -/
def State.replaceScan (w : WindowNo) (y : Nat) (s : State) : State :=
  let b := s.buffers[w]
  let passed := rowsPassed s.grid s.windows[w].height y
  { s.setBuffer w { b with state := b.state.onScanStart } with
    scan :=
      { s.scan with pointer := some w, result := b.state.result, progress := y, passed := passed, committed := 0 } }

/-- Step 4 of a scan start: commit the passed rows, or hold (R84, R85). -/
def State.commitOrHold (w : WindowNo) (s : State) : State :=
  match s.scan.result with
  | some k =>
    let t := s.commitRows k 0 s.scan.passed
    ({ t with scan := { t.scan with committed := s.scan.passed } }).leaveFallback w k
  | none => (s.setFlag .hold).setFlagIf s.buffers[w].state.resultComing .late

/-- Step 5 of a scan start: the supervision timer runs from 0 (R84, R90). -/
def State.restartSupervision (s : State) : State := { s with scan := { s.scan with supervision := .running 0 } }

/-- A scan start of window `w` at line `y` (R84). -/
def State.scanStart (w : WindowNo) (y : Nat) (s : State) : State :=
  (((s.flushScan.replaceScan w y).commitOrHold w).restartSupervision).releaseTripOf .nextScan

/-- A scan-read beat of the window on scan that is not a scan start raises progress and passes rows (R83, R86). -/
def State.advance (w : WindowNo) (y : Nat) (s : State) : State :=
  let progress := max s.scan.progress y
  let passed := rowsPassed s.grid s.windows[w].height progress
  match s.scan.result with
  | some k =>
    let t := s.commitRows k s.scan.committed passed
    { t with scan := { t.scan with progress := progress, passed := passed, committed := passed } }
  | none => { s with scan := { s.scan with progress := progress, passed := passed } }

/-- A scan-read beat handed to the Scan Tracker (R83). -/
def State.scanBeat (w : WindowNo) (y : Nat) (s : State) : State :=
  if s.isScanStart w y then s.scanStart w y
  else if s.scan.pointer = some w then s.advance w y
  else s

/-- A result in slot `k` completed for the window on scan joins the scan (R88). -/
def State.lateJoin (w : WindowNo) (k : SlotNo) (s : State) : State :=
  let t := ({ s with scan := { s.scan with result := some k } }).commitRows k 0 s.scan.passed
  ({ t with scan := { t.scan with committed := s.scan.passed } }).leaveFallback w k

/-- Whether a zone is lit in fallback (R91). -/
def State.litInFallback (s : State) (z : Nat) : Bool :=
  (s.zoneChannel z).isSome && !s.faults.openMarks.getLsbD z && !s.faults.shortMarks.getLsbD z

/-- The entry that fallback entry gives a zone (R91). -/
def State.fallbackEntry (s : State) (z : Nat) : DriveEntry :=
  { duty := if s.litInFallback z then s.limits.fallbackDuty else 0, gain := 256 }

/-- The subject of a window that may be absent. -/
def windowSubject : Option WindowNo → Subject
  | some w => .window w
  | none => .none

/-- Fallback entry from NORMAL (R91). -/
def State.enterFallback (s : State) : State :=
  let ended := s.endScan
  let t := { ended with scan := { ended.scan with fallback := .fallback } }
  (((List.range s.grid.zones).foldl (fun u z => u.writeDrive z (s.fallbackEntry z)) t).addEvent .fallbackEnter
    (windowSubject s.scan.pointer) 0).setFlag .fallbackSeen

/-- Stops the supervision timer (R90). -/
def State.stopSupervision (s : State) : State := { s with scan := { s.scan with supervision := .stopped } }

/-- What an expiry does, by the fallback state (R91). -/
def State.superviseExpire (s : State) : State :=
  let t := s.stopSupervision
  match t.scan.fallback with
  | .normal => t.enterFallback
  | .fallback => t.endScan

/-- SUPERVISION_TIMER_EXPIRY (R90, R91): due once the elapsed time has reached scan_timeout. -/
def execSupervisionTimerExpiry (s : State) : Out :=
  .next (s.whenLive fun s => if s.scan.supervision.reached s.limits.scanTimeout then s.superviseExpire else s)

end Sys2Proof.Machine
end

