-- ==== Sys2Proof/Machine/Buffers.lean ====
section
/-! DEFINITION. The buffer records: what a counting write does by state, the counting of beats, and completion of a frame
(chapter 2, and R49 and R50 of chapter 3). -/

namespace Sys2Proof.Machine

/-- The area of a window (R20). -/
def Window.area (w : Window) : Nat := w.width * w.height

/-- A pixel word of a write beat by its four byte enables (R4). -/
inductive WordWrite where
  | whole
  | notWritten
  | partly
  deriving DecidableEq, Repr

/-- The whole-pixel test of one word (R4). -/
def wordWrite (en : BitVec 4) : WordWrite :=
  if en = 15#4 then .whole else if en = 0#4 then .notWritten else .partly

/-- The write classification of a beat that lies in a window (R4). -/
structure WriteClass where
  window : WindowNo
  line : Nat
  firstPixel : Nat
  active : Nat
  writerPass : Bool
  beat : WriteBeat
  deriving DecidableEq, Repr

/-- The positions of the active words of the beat that are whole pixels. -/
def WriteClass.wholeWords (c : WriteClass) : List Nat :=
  (List.range c.active).filter fun k => wordWrite (wordEnables c.beat.enables k) == .whole

/-- Whether some active word of the beat is a partial pixel. -/
def WriteClass.hasPartial (c : WriteClass) : Bool :=
  (List.range c.active).any fun k => wordWrite (wordEnables c.beat.enables k) == .partly

/-- What the beats of the request so far have done to the buffers: the windows whose first counting beat has passed, and
those whose frame was completed by an earlier beat of this same request (R25). -/
structure RequestMarks where
  begun : List WindowNo
  finished : List WindowNo
  deriving DecidableEq, Repr

/-- A buffer claims the lowest-numbered free bank and becomes FILLING, or becomes BLIND when none is free; its
pixels-written count becomes 0 (R26, R27). -/
def State.claimBank (w : WindowNo) (s : State) : State :=
  match s.freeBank with
  | some b => (s.restartBank b).setBuffer w { state := .filling b, written := 0 }
  | none => s.setBuffer w { state := .blind, written := 0 }

/-- Discards the analysis in progress: the engine is IDLE, the slot is free, the tag counter and the History Table keep
what they hold (R69). -/
def State.abortAnalysis (s : State) : State := { s with engine := { s.engine with analysis := none } }

/-- Removes a buffer's entry from the analysis queue (R36). -/
def State.unqueue (w : WindowNo) (s : State) : State := { s with queue := s.queue.filter (· ≠ w) }

/-- Whether a counting write that moves this buffer out of READY or SHOWN sets TEAR (R33). -/
def State.tears (s : State) (w : WindowNo) : Bool :=
  s.scan.pointer == some w && decide (s.scan.committed < s.grid.rows)

/-- The state change at the first counting beat of a counting write (R27 to R33). A DISABLED buffer's window is not
enabled, so no beat is classified into it. -/
def State.beginCounting (w : WindowNo) (s : State) : State :=
  match s.buffers[w].state with
  | .disabled => s
  | .idle => s.claimBank w
  | .filling _ => s
  | .blind => s
  | .queued b =>
    (((s.unqueue w).restartBank b).setBuffer w { state := .filling b, written := 0 }).setFlag .dropped
  | .analysing b =>
    (((s.abortAnalysis.restartBank b).setBuffer w { state := .filling b, written := 0 }).setFlag .aborted).setFlag .dropped
  | .ready _ => ((s.setFlagIf (s.tears w) .tear).setFlag .dropped).claimBank w
  | .shown _ => (s.setFlagIf (s.tears w) .tear).claimBank w

/-- The bank after the whole pixels of a beat, in pixel word order (R49). -/
def State.countInto (s : State) (c : WriteClass) (bank : Bank) : Bank :=
  let win := s.windows[c.window]
  c.wholeWords.foldl
    (fun b k =>
      b.countPixel (zoneAt s.grid win.width win.height (c.firstPixel + k) c.line)
        (luminance win.format (pixelWord c.beat.data k)))
    bank

/-- Counts a beat's whole pixels under the state the buffer is in, then compares the count with the area: a complete
FILLING frame joins the analysis queue, a complete BLIND frame leaves the buffer IDLE (R28, R34, R35). -/
def State.countBeat (c : WriteClass) (s : State) : State :=
  let w := c.window
  let n := s.buffers[w].written + c.wholeWords.length
  match s.buffers[w].state with
  | .filling b =>
    let t := s.setBank b (s.countInto c s.banks[b])
    if s.windows[w].area ≤ n then
      { t.setBuffer w { state := .queued b, written := n } with queue := s.queue ++ [w] }
    else t.setBuffer w { state := .filling b, written := n }
  | .blind =>
    if s.windows[w].area ≤ n then (s.setBuffer w { state := .idle, written := 0 }).setFlag .blind
    else s.setBuffer w { state := .blind, written := n }
  | .disabled | .idle | .queued _ | .analysing _ | .ready _ | .shown _ => s

/-- Whether a frame of this buffer is being counted. -/
def BufferState.counting : BufferState → Bool
  | .filling _ => true
  | .blind => true
  | .disabled | .idle | .queued _ | .analysing _ | .ready _ | .shown _ => false

/-- The hand-off of a write beat to the buffer record of its window (R6, R25, R49, R50). -/
def State.writeBeat (c : WriteClass) (m : RequestMarks) (s : State) : RequestMarks × State :=
  if c.writerPass then
    let s := s.setFlagIf c.hasPartial .partialPixel
    if c.wholeWords = [] ∨ c.window ∈ m.finished then (m, s)
    else
      let t := (if c.window ∈ m.begun then s else s.beginCounting c.window).countBeat c
      ({ begun := c.window :: m.begun
         finished := if t.buffers[c.window].state.counting then m.finished else c.window :: m.finished }, t)
  else (m, s)

end Sys2Proof.Machine
end

