-- ==== Sys2Proof/Machine/Analysis.lean ====
section
/-! DEFINITION. The Zone Computation Engine: the start of an analysis with its snapshot, the nine stages, and completion
(chapter 4), with the meanings of ANALYSIS_START and ANALYSIS_COMPLETION. -/

namespace Sys2Proof.Machine

/-! ### Start -/

/-- The lines that are RUNNING, one bit each (R57). -/
def State.runningLines (s : State) : BitVec 16 :=
  (List.finRange 16).foldl
    (fun m l => if s.lines[l].state = .running then m ||| BitVec.twoPow 16 l.val else m) 0#16

/-- The snapshot of an analysis that starts now (R55 to R57). -/
def State.snapshot (s : State) : Snapshot :=
  { params := s.paramsInForce
    setUsed := s.setUsedNow
    cap := s.budgetCap
    calibration := if s.tables.calibrationState = .valid then s.tables.calibration else ZoneTable.empty
    mapState := s.tables.zoneMapState
    zoneMap := s.tables.zoneMap
    openMarks := s.faults.openMarks
    shortMarks := s.faults.shortMarks
    running := s.runningLines
    history := s.history }

/-- The start of an analysis of buffer `w`, which holds bank `b`, in slot `k` (R37, R54). -/
def State.startAnalysis (w : WindowNo) (b : BankNo) (k : SlotNo) (rest : List WindowNo) (s : State) : State :=
  { s.setBuffer w { s.buffers[w] with state := .analysing b } with
    queue := rest
    engine :=
      { s.engine with
        tag := s.engine.tag + 1
        analysis := some { buffer := w, bank := b, slot := k, tag := s.engine.tag + 1, snap := s.snapshot } } }

/-- ANALYSIS_START (R37, R54): the IDLE engine starts on the head of the queue. -/
def execAnalysisStart (s : State) : Out :=
  if s.resetAsserted then .next s
  else
    match s.engine.analysis, s.queue with
    | none, w :: rest =>
      match s.buffers[w].state with
      | .queued b =>
        match s.freeSlot with
        | some k => .next (s.startAnalysis w b k rest)
        | none => .fault .noFreeResultSlot
      | .disabled | .idle | .filling _ | .blind | .analysing _ | .ready _ | .shown _ => .next s
    | _, _ => .next s

/-! ### The nine stages -/

/-- Entry `[i][j]` of a quarter table kept as nine entries. -/
def quarter (t : List Nat) (i j : Nat) : Nat := t.getD (3 * i + j) 0

/-- The distance between two indexes. -/
def apart (a b : Nat) : Nat := (a - b) + (b - a)

/-- The neighbours of zone `z` at most two rows and two columns away that lie inside the grid, each with |dy| and |dx|;
zone `z` itself is the neighbour at (0, 0) (section 4.5). -/
def neighbours (g : Grid) (z : Nat) : List (Nat × Nat × Nat) :=
  let row := z / g.columns
  let col := z % g.columns
  (List.range' (row - 2) (min (row + 3) g.rows - (row - 2))).flatMap fun r =>
    (List.range' (col - 2) (min (col + 3) g.columns - (col - 2))).map fun c =>
      (r * g.columns + c, apart r row, apart c col)

/-- Stage 1: the zone statistic s (R59). -/
def statistic (p : ParamSet) (z : ZoneStat) : Nat :=
  let mean := z.sum / z.pixels
  let w := if p.minBrightArea ≤ z.bright then p.mixK else p.mixKSmall
  mean + (z.peak - mean) * w / 16

/-- Stage 2: the tone curve T; the division rounds toward minus infinity (R60). -/
def toneCurve (p : ParamSet) (s : Nat) : Nat :=
  let idx := s / 32
  let frac := s % 32
  let c0 : Int := p.curve.getD idx 0
  let c1 : Int := p.curve.getD (idx + 1) 0
  let t := c0 + ((c1 - c0) * frac + 16) / 32
  max p.minLevel (clampTo 0 4095 t.toNat)

/-- Stage 3: the halo guard H (R61). -/
def haloGuard (p : ParamSet) (g : Grid) (tone : Nat → Nat) (z : Nat) : Nat :=
  ((neighbours g z).map fun n => tone n.1 * quarter p.halo n.2.1 n.2.2 / 256).foldl max 0

/-- Stage 4: the boost counter after the zone's demand `h`, from the counter `b` before it (R62). -/
def boostCount (p : ParamSet) (h b : Nat) : Nat :=
  if p.sustainLevel < h then min 255 (b + 1) else b - p.coolStep

/-- Stage 4: whether the limiter replaces H (R62). -/
def boostLimits (p : ParamSet) (h b : Nat) : Bool :=
  decide (p.sustainLevel < h) && decide (p.boostFrames < boostCount p h b)

/-- Stage 4: H as the limiter leaves it (R62). -/
def boostedLevel (p : ParamSet) (h b : Nat) : Nat := if boostLimits p h b then p.sustainLevel else h

/-- Stage 5: whether the analysis is a scene cut (R63). -/
def sceneCut (p : ParamSet) (h : History) (mean : Nat) : Bool := !h.valid || decide (p.cutThreshold < apart mean h.mean)

/-- Stage 5: the filtered level F (R63). -/
def filteredLevel (p : ParamSet) (cut : Bool) (h prev : Nat) : Nat :=
  if cut then h
  else if prev < h then prev + ((h - prev) * p.upRate + 15) / 16
  else if h < prev then prev - ((prev - h) * p.downRate + 15) / 16
  else prev

/-- Whether zone `z` is dark for the analysis (R58). -/
def Snapshot.dark (sn : Snapshot) (z : Nat) : Bool :=
  sn.mapState != .valid
  || (match entryChannel (sn.zoneMap.get z) with
      | some c => !sn.running.getLsbD c.line.val
      | none => true)
  || sn.openMarks.getLsbD z || sn.shortMarks.getLsbD z

/-- Stage 6: the calibration entry as used (R64). -/
def Snapshot.calibrationOf (sn : Snapshot) (z : Nat) : Nat := clampTo 256 4095 (sn.calibration.get z).toNat

/-- Stage 6: the level after calibration, 0 for a dark zone (R64). -/
def calibratedLevel (dark : Bool) (c f : Nat) : Nat := if dark then 0 else min f (4193280 / c)

/-- Stage 6: the duty before budget, 0 for a dark zone (R64). -/
def calibratedDuty (dark : Bool) (c f : Nat) : Nat := if dark then 0 else calibratedLevel dark c f * c / 1024

/-- Stage 7: the budget scale s_b (R65). -/
def budgetScale (cap total : Nat) : Nat := if cap < total then cap * 65536 / total else 65536

/-- Stage 7: a duty or a level after budget; with s_b = 65,536 it is kept (R65). -/
def budgeted (scale x : Nat) : Nat := x * scale / 65536

/-- Stage 8: the light E that falls on a zone (R66). -/
def lightOn (p : ParamSet) (g : Grid) (level : Nat → Nat) (z : Nat) : Nat :=
  ((neighbours g z).map fun n => level n.1 * quarter p.spread n.2.1 n.2.2).sum / 4096

/-- Stage 9: the gain G (R67). -/
def gainFor (p : ParamSet) (e : Nat) : Nat :=
  if e = 0 then p.gainCeiling else min p.gainCeiling (max 256 (p.eRef * 256 / e))

/-- The outcome of one analysis: the result record and the History Table it leaves (R68, R71, R72). -/
structure AnalysisOutcome where
  result : Result
  history : History
  deriving DecidableEq, Repr

/-- The stages of one analysis in order, each kept as a store by zone (R59 to R67). -/
structure Stages where
  /-- H from stage 3. -/
  halo : ZoneTable Nat 0
  /-- F from stage 5. -/
  filtered : ZoneTable Nat 0
  /-- Stage 6 duty. -/
  duty : ZoneTable Nat 0
  /-- Fc from stage 6. -/
  level : ZoneTable Nat 0
  /-- Total and s_b of stage 7. -/
  total : Nat
  scale : Nat
  /-- L from stage 7. -/
  light : ZoneTable Nat 0
  deriving DecidableEq, Repr

/-- Stages 1 to 7 of an analysis of bank `bank` under the snapshot. -/
def stages (g : Grid) (bank : Bank) (sn : Snapshot) : Stages :=
  let n := g.zones
  let p := sn.params
  let cut := sceneCut p sn.history (globalMean g bank)
  let boostOf := fun z => if sn.history.valid then (sn.history.zones.get z).boost else 0
  let tone : ZoneTable Nat 0 := ZoneTable.ofFn n fun z => toneCurve p (statistic p (bank.zones.get z))
  let halo : ZoneTable Nat 0 := ZoneTable.ofFn n fun z => haloGuard p g tone.get z
  let filtered : ZoneTable Nat 0 := ZoneTable.ofFn n fun z =>
    filteredLevel p cut (boostedLevel p (halo.get z) (boostOf z)) (sn.history.zones.get z).level
  let level : ZoneTable Nat 0 := ZoneTable.ofFn n fun z =>
    calibratedLevel (sn.dark z) (sn.calibrationOf z) (filtered.get z)
  let duty : ZoneTable Nat 0 := ZoneTable.ofFn n fun z =>
    calibratedDuty (sn.dark z) (sn.calibrationOf z) (filtered.get z)
  let total := ((List.range n).map duty.get).sum
  let scale := budgetScale sn.cap total
  let light : ZoneTable Nat 0 := ZoneTable.ofFn n fun z => budgeted scale (level.get z)
  { halo := halo, filtered := filtered, duty := duty, level := level, total := total, scale := scale, light := light }

/-- The whole analysis `a` of bank `bank` (R59 to R67, R71, R72). -/
def analyse (g : Grid) (bank : Bank) (a : Analysis) : AnalysisOutcome :=
  let n := g.zones
  let sn := a.snap
  let p := sn.params
  let st := stages g bank sn
  let boostOf := fun z => if sn.history.valid then (sn.history.zones.get z).boost else 0
  { result :=
      { duty := ZoneTable.ofFn n fun z => budgeted st.scale (st.duty.get z)
        gain := ZoneTable.ofFn n fun z => gainFor p (lightOn p g st.light.get z)
        tag := a.tag
        window := a.buffer
        setUsed := sn.setUsed
        total := st.total
        cap := sn.cap
        scale := st.scale
        mean := globalMean g bank
        budgetLimited := decide (sn.cap < st.total)
        boostLimited := (List.range n).any fun z => boostLimits p (st.halo.get z) (boostOf z)
        darkZones := ((List.range n).filter fun z => sn.dark z).length }
    history :=
      { valid := true
        mean := globalMean g bank
        zones := ZoneTable.ofFn n fun z =>
          { level := st.filtered.get z, boost := boostCount p (st.halo.get z) (boostOf z) } } }

/-! ### Completion -/

/-- Step 5 of a completion: the result joins a scan of its window that has none, and the buffer becomes SHOWN; otherwise the
buffer becomes READY. Its bank is free from here on (R38, R88). -/
def State.deliver (w : WindowNo) (k : SlotNo) (s : State) : State :=
  if s.scan.pointer = some w ∧ s.scan.result = none then
    (s.setBuffer w { s.buffers[w] with state := .shown k }).lateJoin w k
  else s.setBuffer w { s.buffers[w] with state := .ready k }

/-- The completion of analysis `a`, in the order of R68. -/
def State.completeAnalysis (a : Analysis) (s : State) : State :=
  let o := analyse s.grid s.banks[a.bank] a
  let t :=
    ({ s with results := s.results.set a.slot o.result, history := o.history }).setFlagIf o.result.budgetLimited
      .budgetLimited
  ((t.setFlagIf o.result.boostLimited .boostLimited).abortAnalysis).deliver a.buffer a.slot

/-- ANALYSIS_COMPLETION (R68): an ACTIVE engine's analysis completes. -/
def execAnalysisCompletion (s : State) : Out :=
  .next (s.whenLive fun s =>
    match s.engine.analysis with
    | some a => s.completeAnalysis a
    | none => s)

end Sys2Proof.Machine
end

