-- ==== Sys2Proof/Machine/DriverLines.lean ====
section
/-! DEFINITION. The driver lines: frames and check code, the choice of the next frame, the judgment of a return, the line
state machine and the acting on POLL reports (chapter 7, section 10.8, R173), with the meanings of the line commands. -/

namespace Sys2Proof.Machine

/-! ### Bytes of a frame -/

/-- One shift of the CRC-8 register (R173). -/
def crc8Shift (c : Byte) : Byte := if c.getLsbD 7 then (c <<< 1) ^^^ 0x07#8 else c <<< 1

/-- The CRC-8 register after one more byte (R173). -/
def crc8Byte (c b : Byte) : Byte := Nat.iterate crc8Shift 8 (c ^^^ b)

/-- The CRC-8 of a run of bytes in sending order (R173). -/
def crc8 (bytes : List Byte) : Byte := bytes.foldl crc8Byte 0

/-- A 16-bit field of a frame, most significant byte first (R170). -/
def bigEndian16 (v : BitVec 16) : List Byte := [v.extractLsb' 8 8, v.extractLsb' 0 8]

/-- A whole frame: header, payload and CRC-8 over both (section 10.8). -/
def frameBytes (kind : FrameKind) (first count : Nat) (payload : List Byte) : List Byte :=
  let body := [BitVec.ofNat 8 (frameCode kind), BitVec.ofNat 8 first, BitVec.ofNat 8 count] ++ payload
  body ++ [crc8 body]

/-- The time a frame of these bytes takes on the line, in bit times of the line's rate (R107). The model lets BUILD and
RETURN_CHECK be commands of their own and counts no bit times (assumption 7). -/
def frameBitTimes (bytes : List Byte) : Nat := 10 * bytes.length

/-- The enable bit of a channel in a SETUP: mapped, and its zone neither OPEN nor SHORT (R111). -/
def State.channelEnabled (s : State) (l : LineNo) (p k : Nat) : Bool :=
  match s.channelZone l p k with
  | some z => !s.faults.openMarks.getLsbD z && !s.faults.shortMarks.getLsbD z
  | none => false

/-- The channel enable mask of a position (R111). -/
def State.enableMask (s : State) (l : LineNo) (p : Nat) : BitVec 16 :=
  (List.range 16).foldl (fun m k => if s.channelEnabled l p k then m ||| BitVec.twoPow 16 k else m) 0#16

/-- The phase of a position (R111). -/
def State.phase (s : State) (l : LineNo) (p : Nat) : Nat := (p * s.phaseStep l + s.phaseOffset l) % 4096

/-- The bytes of a SETUP (R111). -/
def State.setupBytes (s : State) (l : LineNo) : List Byte :=
  frameBytes .setup 0 (s.driverCount l)
    ((List.range (s.driverCount l)).flatMap fun p =>
      bigEndian16 (s.enableMask l p) ++ bigEndian16 (BitVec.ofNat 16 (s.phase l p))
        ++ [BitVec.ofNat 8 (s.currentRange l)])

/-- The duty captured for a dirty channel (R112). -/
def State.capturedDuty (s : State) (l : LineNo) (p k : Nat) : Nat :=
  let zoneDuty := match s.channelZone l p k with
    | some z => (s.drive.get z).duty
    | none => 0
  let limited := min zoneDuty s.ceiling
  if s.lines[l].hot.getLsbD p then limited / 2 else limited

/-- The positions below the driver count with a dirty channel (R112). -/
def State.dirtyPositions (s : State) (l : LineNo) : List Nat :=
  (List.range (s.driverCount l)).filter fun p => decide (positionFlags s.lines[l].dirty p ≠ 0)

/-- The duty code a LEVEL carries for a channel: the captured duty where it is dirty, 0 where it is not (R112). -/
def State.dutyCode (s : State) (l : LineNo) (p k : Nat) : Nat :=
  if s.lines[l].dirty.getLsbD (channelBit p k) then s.capturedDuty l p k else 0

/-- The payload block of a LEVEL for one covered position: write mask and 16 duty codes (R112). -/
def State.levelBlock (s : State) (l : LineNo) (p : Nat) : List Byte :=
  bigEndian16 (positionFlags s.lines[l].dirty p)
    ++ (List.range 16).flatMap fun k => bigEndian16 (BitVec.ofNat 16 (s.dutyCode l p k))

/-- The bytes of a LEVEL that covers positions `lo` to `hi` (R112). -/
def State.levelBytes (s : State) (l : LineNo) (lo hi : Nat) : List Byte :=
  frameBytes .level lo (hi + 1 - lo) ((List.range' lo (hi + 1 - lo)).flatMap (s.levelBlock l))

/-- The bytes of a LATCH (R113). -/
def State.latchBytes (s : State) (l : LineNo) : List Byte := frameBytes .latch 0 (s.driverCount l) []

/-- The bytes of a POLL as sent (R113). -/
def State.pollBytes (s : State) (l : LineNo) : List Byte :=
  frameBytes .poll 0 (s.driverCount l) (List.replicate (5 * s.driverCount l) 0)

/-! ### Choosing and building -/

/-- The next frame of a line, none when it has none to send, is not free or is neither STARTING nor RUNNING (R115). -/
def State.nextFrame (s : State) (l : LineNo) : Option FrameKind :=
  let x := s.lines[l]
  if x.inFlight.isSome then none
  else
    match x.state with
    | .starting => some .setup
    | .running =>
      if x.setupOwed then some .setup
      else if s.dirtyPositions l ≠ [] then some .level
      else if x.latchOwed ∧ x.dirty = 0 then some .latch
      else if x.pollDue then some .poll
      else none
    | .off | .waitSlot | .faulted | .locked => none

/-- Builds a SETUP: setup owed becomes no (R109, R111). -/
def State.buildSetup (l : LineNo) (s : State) : State :=
  s.modifyLine l fun x =>
    { x with
      setupOwed := false
      inFlight := some { kind := .setup, bytes := s.setupBytes l, mask := 0, ended := false, afterCeiling := true } }

/-- Builds a LEVEL: every dirty flag is cleared, those below the driver count being sent (R109, R112). -/
def State.buildLevel (l : LineNo) (s : State) : State :=
  match (s.dirtyPositions l).head?, (s.dirtyPositions l).getLast? with
  | some lo, some hi =>
    s.modifyLine l fun x =>
      { x with
        dirty := 0
        inFlight :=
          some
            { kind := .level, bytes := s.levelBytes l lo hi, mask := x.dirty &&& channelsBelow (s.driverCount l),
              ended := false, afterCeiling := true } }
  | _, _ => s

/-- Builds a LATCH: latch owed becomes no (R109, R113). -/
def State.buildLatch (l : LineNo) (s : State) : State :=
  s.modifyLine l fun x =>
    { x with
      latchOwed := false
      inFlight := some { kind := .latch, bytes := s.latchBytes l, mask := 0, ended := false, afterCeiling := true } }

/-- Builds a POLL: poll due becomes no and the poll timer runs from 0 (R109, R113). -/
def State.buildPoll (l : LineNo) (s : State) : State :=
  s.modifyLine l fun x =>
    { x with
      pollDue := false
      pollTimer := .running 0
      inFlight := some { kind := .poll, bytes := s.pollBytes l, mask := 0, ended := false, afterCeiling := true } }

/-- SETUP_BUILD (R111, R115). -/
def execSetupBuild (l : LineNo) (s : State) : Out :=
  .next (s.whenLive fun s => if s.nextFrame l = some .setup then s.buildSetup l else s)

/-- LEVEL_BUILD (R112, R115). -/
def execLevelBuild (l : LineNo) (s : State) : Out :=
  .next (s.whenLive fun s => if s.nextFrame l = some .level then s.buildLevel l else s)

/-- LATCH_BUILD (R113, R115). -/
def execLatchBuild (l : LineNo) (s : State) : Out :=
  .next (s.whenLive fun s => if s.nextFrame l = some .latch then s.buildLatch l else s)

/-- POLL_BUILD (R113, R115). -/
def execPollBuild (l : LineNo) (s : State) : Out :=
  .next (s.whenLive fun s => if s.nextFrame l = some .poll then s.buildPoll l else s)

/-- LATCH_END (R113, R142): the last byte of the LATCH in flight has been sent, and the time since the latest LATCH end is
counted from here. -/
def execLatchEnd (l : LineNo) (s : State) : Out :=
  .next (s.whenLive fun s =>
    match s.lines[l].inFlight with
    | some f =>
      if f.kind = .latch ∧ f.ended = false then
        let t := s.modifyLine l fun x => { x with inFlight := some { f with ended := true } }
        { t with protection := { t.protection with sinceLatch := some 0 } }
      else s
    | none => s)

/-! ### Failure of a frame (R118, R122) -/

/-- A line's fault history with one more entry, at most 7 (R122). -/
def historyAdd (limit : Nat) (now : Word) (h : List Word) : List Word :=
  let h' := h ++ [now]
  h'.drop (h'.length - limit)

/-- Whether a history holds `limit` entries whose newest minus oldest is at most `span` milliseconds. -/
def historyFull (limit span : Nat) (h : List Word) : Bool :=
  h.length == limit && decide (spanMs (h.getLast?.getD 0) (h.head?.getD 0) ≤ span)

/-- The third consecutive failure: FAULTED, or LOCKED with seven entries within 60,000 ms (R122). In a power-down a FAULTED
line is stopped at once, and the power-down is tested (R134, R135). On a line that becomes LOCKED the state timer is STOPPED
(DEDUCED, assumption 26). -/
def State.faultLine (l : LineNo) (s : State) : State :=
  let h := historyAdd 7 s.ms s.lines[l].history
  let locked := historyFull 7 60000 h
  let t := s.modifyLine l fun x =>
    { abandonFrame x with
      state := if locked then .locked else .faulted
      failures := 0
      history := h
      pollTimer := .stopped
      stateTimer := if locked then .stopped else .running 0 }
  let u :=
    if locked then t.addEvent .lineLocked (.line l) 7 else t.addEvent .lineFaulted (.line l) h.length
  let v := if u.protection.backlight = .poweringDown then u.stopOrder l else u
  v.powerDownTest

/-- What a failed frame of each kind makes the line owe again (R118). -/
def failedFrame (f : Frame) (x : Line) : Line :=
  match f.kind with
  | .setup => { x with inFlight := none, setupOwed := if x.state = .running then true else x.setupOwed }
  | .level => { x with inFlight := none, dirty := x.dirty ||| f.mask, latchOwed := true }
  | .latch => { x with inFlight := none, latchOwed := true }
  | .poll => { x with inFlight := none, pollDue := true }

/-- The failure of frame `f` in flight on a line, MISMATCH or TIMEOUT alike (R114, R118). -/
def State.frameFails (l : LineNo) (f : Frame) (s : State) : State :=
  let t := s.setFlag .lineError
  if 2 ≤ t.lines[l].failures then t.faultLine l
  else t.modifyLine l fun x => { failedFrame f x with failures := x.failures + 1 }

/-! ### What a successful POLL reports (R125 to R128) -/

/-- The report of one position in a returned POLL (section 10.8). -/
structure PollReport where
  openMask : BitVec 16
  shortMask : BitVec 16
  overTemperature : Bool
  frameError : Bool
  deriving DecidableEq, Repr

/-- The report of position `p` in the bytes of a returned POLL. -/
def pollReport (bytes : List Byte) (p : Nat) : PollReport :=
  let b := fun i => bytes.getD (3 + 5 * p + i) 0
  { openMask := b 0 ++ b 1, shortMask := b 2 ++ b 3, overTemperature := (b 4).getLsbD 0, frameError := (b 4).getLsbD 1 }

/-- The two kinds of string fault (R125). -/
inductive FaultKind where
  | openString
  | shortString
  deriving DecidableEq, Repr

/-- The suspect marks of a kind. -/
def Line.suspects (x : Line) : FaultKind → BitVec 384
  | .openString => x.openSuspect
  | .shortString => x.shortSuspect

/-- A line with its suspect marks of a kind replaced. -/
def Line.withSuspects (x : Line) (k : FaultKind) (m : BitVec 384) : Line :=
  match k with
  | .openString => { x with openSuspect := m }
  | .shortString => { x with shortSuspect := m }

/-- Whether the zone has a mark of a kind (R126). -/
def State.zoneMarked (s : State) (k : FaultKind) (z : Nat) : Bool :=
  match k with
  | .openString => s.faults.openMarks.getLsbD z
  | .shortString => s.faults.shortMarks.getLsbD z

/-- Marks a zone in the Zone Fault Map (R125, R126). -/
def State.markFault (k : FaultKind) (z : Nat) (s : State) : State :=
  match k with
  | .openString => { s with faults := { s.faults with openMarks := s.faults.openMarks ||| BitVec.twoPow 5184 z } }
  | .shortString => { s with faults := { s.faults with shortMarks := s.faults.shortMarks ||| BitVec.twoPow 5184 z } }

/-- The event kind of a confirmation. -/
def faultEvent : FaultKind → EventKind
  | .openString => .zoneOpen
  | .shortString => .zoneShort

/-- Detail of ZONE_OPEN and ZONE_SHORT: line, position and channel (section 10.7). -/
def channelDetail (l : LineNo) (p k : Nat) : Nat := l.val * 512 + p * 16 + k

/-- Sets or clears the suspect mark of a channel. -/
def State.setSuspect (l : LineNo) (kind : FaultKind) (bit : Nat) (on : Bool) (s : State) : State :=
  s.modifyLine l fun x =>
    x.withSuspects kind
      (if on then x.suspects kind ||| BitVec.twoPow 384 bit else x.suspects kind &&& ~~~(BitVec.twoPow 384 bit))

/-- The test of one channel for one kind (R125); `reported` is its report bit. -/
def State.testChannel (l : LineNo) (p k : Nat) (kind : FaultKind) (reported : Bool) (s : State) : State :=
  match s.channelZone l p k with
  | none => s
  | some z =>
    if s.zoneMarked kind z then s
    else
      let bit := channelBit p k
      match reported, (s.lines[l].suspects kind).getLsbD bit with
      | true, false => s.setSuspect l kind bit true
      | true, true =>
        (((s.setSuspect l kind bit false).markFault kind z).addEvent (faultEvent kind) (.zone z)
          (channelDetail l p k)).modifyLine l fun x => { x with setupOwed := true }
      | false, true => s.setSuspect l kind bit false
      | false, false => s

/-- The tests of every channel of a position, channel by channel, open before short (R125). -/
def State.testPosition (l : LineNo) (r : PollReport) (p : Nat) (s : State) : State :=
  (List.range 16).foldl
    (fun t k =>
      (t.testChannel l p k .openString (r.openMask.getLsbD k)).testChannel l p k .shortString (r.shortMask.getLsbD k))
    s

/-- The over-temperature report of a position (R127). -/
def State.testHot (l : LineNo) (p : Nat) (reported : Bool) (s : State) : State :=
  match reported, s.lines[l].hot.getLsbD p with
  | true, false =>
    ((s.modifyLine l fun x => { x with hot := x.hot ||| BitVec.twoPow 24 p }).markChannels l (channelsAt p)).addEvent
      .driverHot (.line l) p
  | false, true =>
    (s.modifyLine l fun x => { x with hot := x.hot &&& ~~~(BitVec.twoPow 24 p) }).markChannels l (channelsAt p)
  | true, true => s
  | false, false => s

/-- The frame-error report of a position (R128). -/
def State.testFrameError (l : LineNo) (p : Nat) (reported : Bool) (s : State) : State :=
  if reported then s.markChannels l (channelsAt p) else s

/-- Acting on the reports of a successful POLL (R125, R127, R128). -/
def State.actOnPoll (l : LineNo) (bytes : List Byte) (s : State) : State :=
  let ps := List.range (s.driverCount l)
  let t := ps.foldl (fun u p => u.testPosition l (pollReport bytes p) p) s
  let t := ps.foldl (fun u p => u.testHot l p (pollReport bytes p).overTemperature) t
  ps.foldl (fun u p => u.testFrameError l p (pollReport bytes p).frameError) t

/-! ### Success of a frame (R118, R120) -/

/-- The entry into RUNNING (R120). -/
def State.lineRuns (l : LineNo) (s : State) : State :=
  (s.modifyLine l fun x =>
    { x with
      state := .running
      dirty := x.dirty ||| channelsBelow (s.driverCount l)
      latchOwed := true
      pollDue := true
      pollTimer := .running 0 }).addEvent .lineRunning (.line l) (s.driverCount l)

/-- The success of frame `f` in flight on a line (R118). A successful LATCH is signalled to Protection, which tests the
power-down (R135). -/
def State.frameSucceeds (l : LineNo) (f : Frame) (bytes : List Byte) (s : State) : State :=
  let t := s.modifyLine l fun x => { x with inFlight := none, failures := 0 }
  match f.kind with
  | .setup => if t.lines[l].state = .starting then t.lineRuns l else t
  | .level => t
  | .latch =>
    (t.modifyLine l fun x => { x with ceilingLatched := x.ceilingLatched || f.afterCeiling }).powerDownTest
  | .poll => t.actOnPoll l bytes

/-- Whether a whole return passes the contents test of its frame (R114). -/
def returnGood (f : Frame) (bytes : List Byte) : Bool :=
  match f.kind with
  | .setup | .level | .latch => bytes == f.bytes
  | .poll => bytes.take 3 == f.bytes.take 3 && bytes.getLast? == some (crc8 bytes.dropLast)

/-- RETURN_CHECK (R114): the last expected byte has arrived when the return is as long as the frame. -/
def execReturnCheck (l : LineNo) (bytes : List Byte) (s : State) : Out :=
  .next (s.whenLive fun s =>
    match s.lines[l].inFlight with
    | some f =>
      if bytes.length = f.bytes.length then
        if returnGood f bytes then s.frameSucceeds l f bytes else s.frameFails l f
      else s
    | none => s)

/-- TIMEOUT (R114): a byte of the return of the frame in flight has not begun in its window. -/
def execTimeout (l : LineNo) (s : State) : Out :=
  .next (s.whenLive fun s =>
    match s.lines[l].inFlight with
    | some f => s.frameFails l f
    | none => s)

/-! ### Line timers (R117, R119, R123) -/

/-- The line enters STARTING; if it got the last start order of a power-up whose list is empty, the backlight is ON and the
sequencer IDLE (R119, R133). The state timer stops, as it times WAIT_SLOT and FAULTED only (DEDUCED, assumption 26). -/
def State.lineStarts (l : LineNo) (s : State) : State :=
  let t := s.modifyLine l fun x => { x with state := .starting, stateTimer := .stopped }
  match t.protection.sequencer with
  | .up [] last => if last = l then (t.setSequencer .idle .stopped).setBacklight .on else t
  | .up (_ :: _) _ => t
  | .idle => t
  | .draining => t
  | .dropping => t

/-- WAIT_SLOT_ELAPSED (R119): due once the state timer has reached the slot length taken at the entry. -/
def execWaitSlotElapsed (l : LineNo) (s : State) : Out :=
  .next (s.whenLive fun s =>
    if s.lines[l].state = .waitSlot ∧ s.lines[l].stateTimer.reached s.lines[l].slotUs then s.lineStarts l else s)

/-- The retry of a FAULTED line (R123). On a line that becomes OFF the state timer stops (DEDUCED, assumption 26). -/
def State.retryLine (l : LineNo) (s : State) : State :=
  if s.protection.backlight = .on ∨ s.protection.backlight = .poweringUp then s.startOrder l
  else s.modifyLine l fun x => { x with state := .off, stateTimer := .stopped }

/-- RETRY_DELAY_ELAPSED (R123): due once the state timer of a FAULTED line has reached the retry delay. -/
def execRetryDelayElapsed (l : LineNo) (s : State) : Out :=
  .next (s.whenLive fun s =>
    if s.lines[l].state = .faulted ∧ s.lines[l].stateTimer.reached (s.retryDelay l) then s.retryLine l else s)

/-- POLL_TIMER_EXPIRY (R117): due once the poll timer of a RUNNING line has reached the poll interval; the timer stops and a
poll is due. -/
def execPollTimerExpiry (l : LineNo) (s : State) : Out :=
  .next (s.whenLive fun s =>
    if s.lines[l].state = .running ∧ s.lines[l].pollTimer.reached (s.pollInterval l) then
      s.modifyLine l fun x => { x with pollDue := true, pollTimer := .stopped }
    else s)

end Sys2Proof.Machine
end

