-- ==== Sys2Proof/Machine/Protection.lean ====
section
/-! DEFINITION. Protection and Sequencing: the thermal, supply and overcurrent machines and the sequencer's steps (chapter
8), with the meanings of the commands that drive them. -/

namespace Sys2Proof.Machine

/-! ### Sequencer steps (R133, R135) -/

/-- POWER_UP_STEP (R133): due once the step timer has reached the slot length in force. -/
def execPowerUpStep (s : State) : Out :=
  .next (s.whenLive fun s =>
    match s.protection.sequencer with
    | .up (l :: rest) _ =>
      if s.protection.stepTimer.reached s.limits.slotUs then
        (s.setSequencer (.up rest l) (stepTimerFor rest)).startOrder l
      else s
    | .up [] _ => s
    | .idle => s
    | .draining => s
    | .dropping => s)

/-- POWER_DOWN_STEP (R135): due once the step timer has reached the slot length in force while dropping. -/
def execPowerDownStep (s : State) : Out :=
  .next (s.whenLive fun s =>
    if s.protection.sequencer = .dropping ∧ s.protection.stepTimer.reached s.limits.slotUs then s.dropOne else s)

/-! ### Thermal protection (R137 to R139) -/

/-- The hotter board sensor T (section 8.6). -/
def boardTemp (c : SampleSet) : Nat := max c.tb0.toNat c.tb1.toNat

/-- The new thermal state outside SHUTDOWN: the first row of R137 that holds. A difference such as warm - hysteresis is
signed, so "below" it is said with the sum. -/
def thermalNext (m : Limits) (c : SampleSet) (now : Thermal) : Thermal :=
  let t := boardTemp c
  match now with
  | .normal =>
    if m.shutdown ≤ t ∨ m.dieLimit ≤ c.tdie.toNat then .shutdown
    else if m.hot ≤ t then .hot
    else if m.warm ≤ t then .warm
    else .normal
  | .warm =>
    if m.shutdown ≤ t ∨ m.dieLimit ≤ c.tdie.toNat then .shutdown
    else if m.hot ≤ t then .hot
    else if t + m.thermalHysteresis < m.warm then .normal
    else .warm
  | .hot =>
    if m.shutdown ≤ t ∨ m.dieLimit ≤ c.tdie.toNat then .shutdown
    else if t + m.thermalHysteresis < m.warm then .normal
    else if t + m.thermalHysteresis < m.hot then .warm
    else .hot
  | .shutdown => .shutdown

/-- Whether a sample counts toward cool-down (R139). -/
def coolSample (m : Limits) (c : SampleSet) : Bool :=
  decide (boardTemp c + m.thermalHysteresis < m.hot) && decide (c.tdie.toNat + m.thermalHysteresis < m.dieLimit)

/-- Changes the thermal state; each change adds THERMAL_STATE with the new state as detail (R137). -/
def State.setThermal (x : Thermal) (s : State) : State :=
  if s.protection.thermal = x then s
  else ({ s with protection := { s.protection with thermal := x } }).addEvent .thermalState .none (thermalCode x)

/-- Sets the cool-down count. -/
def State.setCoolDown (n : Nat) (s : State) : State := { s with protection := { s.protection with coolDown := n } }

/-- Whether the backlight is in a state from which a shutdown stops the lines (R138). -/
def Backlight.lit : Backlight → Bool
  | .poweringUp => true
  | .on => true
  | .poweringDown => true
  | .off => false
  | .thermalOff => false
  | .latchedOff => false

/-- The entry into SHUTDOWN (R138). R138 does not say what the step timer does as the sequencer becomes IDLE; the model stops
it (DESIGN CHOICE, assumption 25). -/
def State.enterShutdown (s : State) : State :=
  let h := historyAdd 7 s.ms s.protection.shutdownHistory
  let t := (s.setThermal .shutdown).setCoolDown 0
  let t := { t with protection := { t.protection with shutdownHistory := h } }
  let b :=
    if historyFull 7 60000 h then Backlight.latchedOff
    else if s.protection.backlight.lit then Backlight.thermalOff
    else s.protection.backlight
  let u := t.setBacklight b
  if s.protection.backlight.lit then forLines State.stopOrder (u.setSequencer .idle .stopped) else u

/-- Whether the tables a power-up needs are VALID (R139, R147). -/
def State.powerTablesValid (s : State) : Bool :=
  s.tables.zoneMapState == .valid && s.tables.lineSetupState == .valid && s.tables.limitsState == .valid

/-- A power-up begins when its tables are VALID; otherwise the state becomes OFF and the target OFF (R139, R147). -/
def State.powerUpOrOff (s : State) : State :=
  if s.powerTablesValid then s.powerUpBegin else (s.setTarget false).setBacklight .off

/-- SHUTDOWN is left (R139). -/
def State.leaveShutdown (s : State) : State :=
  let next := if s.limits.warm ≤ boardTemp s.protection.codes + s.limits.thermalHysteresis then Thermal.warm else Thermal.normal
  let t := (s.setThermal next).setCoolDown 0
  if t.protection.backlight = .thermalOff then
    if t.protection.target then t.powerUpOrOff else t.setBacklight .off
  else t

/-- The evaluation of the thermal machine at a sample (R137, R139). -/
def State.evalThermal (s : State) : State :=
  match s.protection.thermal with
  | .shutdown =>
    if coolSample s.limits s.protection.codes then
      if 1000 ≤ s.protection.coolDown + 1 then s.leaveShutdown else s.setCoolDown (s.protection.coolDown + 1)
    else s.setCoolDown 0
  | .normal | .warm | .hot =>
    match thermalNext s.limits s.protection.codes s.protection.thermal with
    | .shutdown => s.enterShutdown
    | .normal => s.setThermal .normal
    | .warm => s.setThermal .warm
    | .hot => s.setThermal .hot

/-! ### Supply protection (R140, R141) -/

/-- The new supply state: the first row of R140 that holds. -/
def supplyNext (m : Limits) (v : Nat) (now : Supply) : Supply :=
  match now with
  | .ok => if v < m.uv then .uv else if v < m.low then .low else .ok
  | .low => if v < m.uv then .uv else if m.low + m.vledHysteresis ≤ v then .ok else .low
  | .uv =>
    if m.uv + m.vledHysteresis ≤ v ∧ m.low + m.vledHysteresis ≤ v then .ok
    else if m.uv + m.vledHysteresis ≤ v then .low
    else .uv

/-- The event of a change of supply state (R140). -/
def supplyEvent : Supply → EventKind
  | .ok => .supplyOk
  | .low => .supplyLow
  | .uv => .supplyUv

/-- The evaluation of the supply machine at a sample; entry into UV sets UV_SEEN and, in LATCHED mode, the UV latch (R140,
R141). -/
def State.evalSupply (s : State) : State :=
  let next := supplyNext s.limits s.protection.codes.vled.toNat s.protection.supply
  if s.protection.supply = next then s
  else
    let t :=
      ({ s with
          protection :=
            { s.protection with
              supply := next
              uvLatch := s.protection.uvLatch || (next == Supply.uv && s.limits.uvMode == UvMode.latched) } }).addEvent
        (supplyEvent next) .none s.protection.codes.vled.toNat
    t.setFlagIf (next == Supply.uv) .uvSeen

/-- The sample: a millisecond passes, the four codes are kept, both machines are evaluated, and a changed duty ceiling is
signalled (R136, R145). -/
def State.sample (c : SampleSet) (s : State) : State :=
  let t := s.tickMs
  let t := { t with protection := { t.protection with codes := c } }
  t.evalThermal.evalSupply.settleCeiling s.ceiling

/-- ANALOG_SAMPLE (R136). -/
def execAnalogSample (c : SampleSet) (s : State) : Out := .next (s.whenLive fun s => s.sample c)

/-- COOL_DOWN_END (R139): the sample at which the cool-down count reaches 1,000. -/
def execCoolDownEnd (c : SampleSet) (s : State) : Out :=
  .next (s.whenLive fun s =>
    if s.protection.thermal = .shutdown ∧ 1000 ≤ s.protection.coolDown + 1 ∧ coolSample s.limits c then s.sample c else s)

/-! ### Overcurrent protection (R142, R143) -/

/-- Whether a sample taken now is blanked (R142). -/
def State.ocBlanked (s : State) : Bool :=
  match s.protection.sinceLatch with
  | some e => decide (e < s.limits.blankUs)
  | none => false

/-- Whether an asserted sample taken now trips (R142). -/
def State.ocWouldTrip (s : State) : Bool :=
  s.protection.trip.isNone && !s.ocBlanked && decide (s.limits.ocFilter ≤ s.protection.filterCount + 1)

/-- The filter count after a sample that does not trip (R142). -/
def State.filterNext (s : State) (asserted : Bool) : Nat :=
  if s.protection.trip.isSome then 0
  else if s.ocBlanked then s.protection.filterCount
  else if asserted then s.protection.filterCount + 1
  else 0

/-- A trip (R142, R143): its mode is MANUAL when three trips stand within 1,000 ms, otherwise the mode in force. -/
def State.tripNow (s : State) : State :=
  let h := historyAdd 3 s.ms s.protection.tripHistory
  let mode := if historyFull 3 1000 h then ReleaseMode.manual else s.limits.ocMode
  (({ s with
        protection :=
          { s.protection with
            trip := some { mode := mode, elapsed := 0 }
            tripHistory := h
            filterCount := 0 } }).setFlag .ocTrip).addEvent .ocTrip .none h.length

/-- One microsecond sample of OC_N: whether it is blanked is judged first, then the microsecond passes (R142). -/
def State.ocSample (asserted : Bool) (s : State) : State :=
  if asserted && s.ocWouldTrip then s.tickUs.tripNow
  else
    let t := s.tickUs
    { t with protection := { t.protection with filterCount := s.filterNext asserted } }

/-- OC_TRIP (R142): the asserted sample at which the filter count reaches oc_filter. -/
def execOcTrip (s : State) : Out := .next (s.whenLive fun s => if s.ocWouldTrip then s.ocSample true else s)

/-- OVERCURRENT_SAMPLE (R142): one microsecond sample of OC_N. -/
def execOvercurrentSample (asserted : Bool) (s : State) : Out := .next (s.whenLive fun s => s.ocSample asserted)

/-- TIMED_RELEASE (R143): due 10,000 microsecond ticks after a TIMED trip. -/
def execTimedRelease (s : State) : Out :=
  .next (s.whenLive fun s =>
    match s.protection.trip with
    | some t => if t.mode = .timed ∧ 10000 ≤ t.elapsed then s.releaseTrip else s
    | none => s)

/-! ### CLEAR_FAULT(protection) (R147) -/

/-- The first row of R147: leaving LATCHED_OFF. -/
def State.clearLatchedOff (s : State) : State :=
  let t := { s with protection := { s.protection with shutdownHistory := [] } }
  if t.protection.target = false then t.setBacklight .off
  else if t.protection.thermal = .shutdown then t.setBacklight .thermalOff
  else t.powerUpOrOff

/-- The effects of CLEAR_FAULT(protection), with the sum of the detail values of the rows that applied (R147). -/
def State.clearProtection (s : State) : State × Nat :=
  let latched := s.protection.backlight == .latchedOff
  let t := if latched then s.clearLatchedOff else s
  let tripped := s.protection.trip.isSome
  let u := if tripped then t.releaseTrip else t
  let uv := s.protection.uvLatch && s.protection.supply != .uv
  let v := if uv then { u with protection := { u.protection with uvLatch := false } } else u
  (v, (if latched then 1 else 0) + (if tripped then 2 else 0) + (if uv then 4 else 0))

end Sys2Proof.Machine
end

