-- ==== Sys2Proof/Machine/Ring.lean ====
section
/-! DEFINITION. The Command Ring: capture of slot writes, the beginning of a command, its answer, and the offering of its
injected requests (sections 9.1 to 9.3), with the meaning of INJECTED_REQUEST_OFFER. -/

namespace Sys2Proof.Machine

/-! ### The control region and the slot shadows -/

/-- The base of the control region, CFG × 0400_0000h + 03FF_F000h (R149), as one 29-bit number. -/
def State.controlBase (s : State) : Nat := (s.cfg ++ 0x3FFF000#26).toNat

/-- Whether a beat at quarter `q` of a slot writes the whole commit word (R151). -/
def commits (q : Nat) (en : Enables) : Bool := q == 3 && en.extractLsb' 28 4 == 15#4

/-- Captures a write beat at `offset` of the control region: a beat of the slot area updates its slot's shadow, and one that
writes a whole commit word makes the slot pending; a beat elsewhere changes nothing (R149 to R151). -/
def State.captureBeat (offset : Nat) (b : WriteBeat) (s : State) : State :=
  if h : offset < 2048 then
    let k : CommandNo := ⟨offset / 128, by omega⟩
    let q := offset % 128 / 32
    let old := s.ring.shadows[k]
    let new := putSlotBeat old q (mergeLanes b.enables (slotBeat old q) b.data)
    { s with
      ring :=
        { s.ring with
          shadows := s.ring.shadows.set k new
          pendingSlots :=
            if commits q b.enables then s.ring.pendingSlots ||| BitVec.twoPow 16 k.val else s.ring.pendingSlots } }
  else s

/-! ### The answer of a command (R154) -/

/-- The status codes (R154). -/
inductive Status where
  | done
  | clamped
  | busy
  | state
  | badParam
  | badCommand
  | crcFail
  | badTable
  | linkDown
  deriving DecidableEq, Repr

/-- The code of a status. -/
def statusCode : Status → Nat
  | .done => 1
  | .clamped => 2
  | .busy => 3
  | .state => 4
  | .badParam => 5
  | .badCommand => 6
  | .crcFail => 7
  | .badTable => 8
  | .linkDown => 9

/-- An answer: status and detail. -/
abbrev Answer := Status × Nat

/-- The status word: code, sequence and detail (section 10.3). -/
def statusWord (a : Answer) (sequence : Nat) : Word :=
  packFields 32 [(0, 1, statusCode a.1), (1, 1, sequence), (2, 2, a.2)]

/-- The address of a slot in the control region. -/
def State.slotBase (s : State) (k : CommandNo) : Nat := s.controlBase + 128 * k.val

/-- A beat with the given bytes enabled; the other lanes carry free value number `n` (assumption 3). -/
def maskedBeat (en : Enables) (data : Beat) (n : Nat) : WriteBeat :=
  { data := mergeLanes en (Config.disabledLanes n) data, enables := en }

/-- The status word write: one beat at slot base + 60h with the four bytes of the status word enabled (R154). -/
def statusWrite (address : Nat) (word : Word) (n : Nat) : Injected :=
  { request :=
      { requester := 63
        address := BitVec.ofNat 32 address
        body := .write [maskedBeat 0x0F000000#32 (word.setWidth 256 <<< 192) n] }
    purpose := .status word }

/-- Fixes the answer of the executing command: its data writes, then its status word write, wait to be offered, and its load
is over (R154). -/
def State.answer (data : List Injected) (a : Answer) (s : State) : State :=
  match s.ring.executing with
  | none => s
  | some c =>
    let w := statusWrite (s.slotBase s.ring.index + 0x60) (statusWord a (sequenceOf c.snapshot)) s.freeCount
    { s with
      ring := { s.ring with executing := some { c with offers := data ++ [w], load := none } }
      freeCount := s.freeCount + 1 }

/-! ### The beginning of a command (R152, R153) -/

/-- The snapshot of the slot at the index, when its execution can begin: ring IDLE, slot pending, downstream link UP and
RESET_N released (R152). -/
def State.readyCommand (s : State) : Option (BitVec 1024) :=
  if s.resetAsserted = false ∧ s.ring.executing = none ∧ s.ring.pendingSlots.getLsbD s.ring.index.val
      ∧ s.link.downstream = .up then
    some s.ring.shadows[s.ring.index]
  else none

/-- The beginning of a command: pending flag cleared, ring EXECUTING with the snapshot (R152). -/
def State.beginCommand (snap : BitVec 1024) (s : State) : State :=
  { s with
    ring :=
      { s.ring with
        pendingSlots := s.ring.pendingSlots &&& ~~~(BitVec.twoPow 16 s.ring.index.val)
        executing := some { snapshot := snap, offers := [], load := none } } }

/-- The rows of the opcode table that are commands of the ring. -/
inductive Row where
  | window
  | windowOff
  | setGrid
  | selectSet
  | backlightOn
  | backlightOff
  | loadTable
  | readStatus
  | readEvents
  | clearFaultLine
  | clearFaultZones
  | clearFaultProtection
  | badCommand
  deriving DecidableEq, Repr

/-- Whether a snapshot is a command of the row. A BACKLIGHT whose parameter names neither ON nor OFF is a command of both
BACKLIGHT rows, and a CLEAR_FAULT whose kind names none of the three one of all three rows (assumption 8). -/
def Row.accepts (r : Row) (snap : BitVec 1024) : Bool :=
  match r with
  | .window => commandCode snap == 1
  | .windowOff => commandCode snap == 2
  | .setGrid => commandCode snap == 3
  | .selectSet => commandCode snap == 4
  | .backlightOn => commandCode snap == 5 && param snap 0 1 != 0
  | .backlightOff => commandCode snap == 5 && param snap 0 1 != 1
  | .loadTable => commandCode snap == 6
  | .readStatus => commandCode snap == 7
  | .readEvents => commandCode snap == 8
  | .clearFaultLine => commandCode snap == 9 && param snap 0 1 != 2 && param snap 0 1 != 3
  | .clearFaultZones => commandCode snap == 9 && param snap 0 1 != 1 && param snap 0 1 != 3
  | .clearFaultProtection => commandCode snap == 9 && param snap 0 1 != 1 && param snap 0 1 != 2
  | .badCommand => (blockSize (commandCode snap)).isNone

/-- The checks of R153: the answer of the first that fails. -/
def headerCheck (snap : BitVec 1024) : Option Answer :=
  match blockSize (commandCode snap) with
  | none => some (.badCommand, commandCode snap)
  | some size =>
    if 112 < paramLength snap then some (.badParam, 0xFFFF)
    else if paramLength snap < size then some (.badParam, 0xFFFF)
    else none

/-- Executes the command at the index if it is ready and of the row: it begins, and then either the header check answers it
or `body` does. Otherwise the row's event does not come about and nothing changes (assumption 9). -/
def State.runCommand (r : Row) (body : BitVec 1024 → State → State) (s : State) : State :=
  match s.readyCommand with
  | none => s
  | some snap =>
    if r.accepts snap then
      match headerCheck snap with
      | some a => (s.beginCommand snap).answer [] a
      | none => body snap (s.beginCommand snap)
    else s

/-! ### Offers (R9, R154, R155) -/

/-- Offers the next injected request of the executing command. -/
def State.offerNext (s : State) : State :=
  match s.ring.executing with
  | none => s
  | some c =>
    match c.offers with
    | [] => s
    | q :: rest =>
      if s.link.injected.length < Config.injectedDepth then
        { s with
          link := { s.link with injected := s.link.injected ++ [q] }
          ring := { s.ring with executing := some { c with offers := rest } } }
      else s

/-- INJECTED_REQUEST_OFFER (R9, R154): while the downstream link is DOWN the ring is stalled and offers nothing (R155). -/
def execInjectedRequestOffer (s : State) : Out :=
  .next (s.whenLive fun s => if s.link.downstream = .up then s.offerNext else s)

end Sys2Proof.Machine
end

