-- ==== Sys2Proof/Machine/Commands.lean ====
section
/-! DEFINITION. The commands of the control region besides table loads and reports: WINDOW, WINDOW_OFF, SET_GRID, SELECT_SET,
BACKLIGHT, CLEAR_FAULT, and a slot whose code names no command. -/

namespace Sys2Proof.Machine

/-! ### WINDOW (R21, R22) -/

/-- The first address beyond a window's range (R20). -/
def Window.rangeEnd (w : Window) : Nat := w.base.toNat + w.pitch * w.height

/-- Whether two address ranges, each from its start up to but excluding its end, share an address (R21). -/
def rangesOverlap (a aEnd b bEnd : Nat) : Bool := decide (max a b < min aEnd bEnd)

/-- The window a WINDOW command describes, enabled (R22, section 10.3). -/
def windowOf (snap : BitVec 1024) : Window :=
  { enable := true
    base := BitVec.ofNat 32 (param snap 4 4)
    pitch := param snap 8 4
    width := param snap 12 2
    height := param snap 14 2
    format := if param snap 1 1 = 1 then .rgb8 else .rgb10
    writerMatch := BitVec.ofNat 6 (param snap 16 1)
    writerMask := BitVec.ofNat 6 (param snap 17 1)
    scanMatch := BitVec.ofNat 6 (param snap 18 1)
    scanMask := BitVec.ofNat 6 (param snap 19 1)
    compensation := param snap 2 1 == 1
    hueClip := param snap 3 1 == 1 }

/-- Whether a buffer is FILLING, BLIND, QUEUED or ANALYSING (check 2 of R21). -/
def BufferState.busy : BufferState → Bool
  | .filling _ => true
  | .blind => true
  | .queued _ => true
  | .analysing _ => true
  | .disabled | .idle | .ready _ | .shown _ => false

/-- The lowest-numbered other enabled window whose range overlaps (check 12 of R21). -/
def State.overlapping (s : State) (w : WindowNo) (x : Window) : Option WindowNo :=
  (List.finRange 4).find? fun v =>
    v != w && s.windows[v].enable
    && rangesOverlap x.base.toNat x.rangeEnd s.windows[v].base.toNat s.windows[v].rangeEnd

/-- Checks 2 to 12 of R21 for window `w`: the answer of the first that fails. -/
def State.windowCheck (s : State) (w : WindowNo) (snap : BitVec 1024) : Option Answer :=
  let x := windowOf snap
  if s.buffers[w].state.busy then some (.busy, 0)
  else if s.scan.pointer = some w then some (.busy, 1)
  else if param snap 4 4 % 32 ≠ 0 then some (.badParam, 2)
  else if ¬(64 ≤ x.width ∧ x.width ≤ 7680) then some (.badParam, 3)
  else if ¬(64 ≤ x.height ∧ x.height ≤ 4320) then some (.badParam, 4)
  else if ¬(x.pitch % 32 = 0 ∧ 4 * x.width ≤ x.pitch ∧ x.pitch ≤ 32768) then some (.badParam, 5)
  else if ¬(param snap 1 1 ≤ 1 ∧ param snap 2 1 ≤ 1 ∧ param snap 3 1 ≤ 1 ∧ param snap 16 1 ≤ 63 ∧ param snap 17 1 ≤ 63
      ∧ param snap 18 1 ≤ 63 ∧ param snap 19 1 ≤ 63) then some (.badParam, 6)
  else if 2 ^ 32 < x.rangeEnd then some (.badParam, 7)
  else if ¬(8 * s.grid.columns ≤ x.width ∧ 8 * s.grid.rows ≤ x.height) then some (.badParam, 8)
  else if rangesOverlap x.base.toNat x.rangeEnd s.controlBase (s.controlBase + 4096) then some (.badParam, 9)
  else
    match s.overlapping w x with
    | some v => some (.badParam, 0x10 + v.val)
    | none => none

/-- The effects of an accepted WINDOW: the record is replaced, the buffer is IDLE and drops its reference (R22). -/
def State.describeWindow (w : WindowNo) (x : Window) (s : State) : State :=
  { s.setBuffer w { state := .idle, written := 0 } with windows := s.windows.set w x }

/-- A window number as a parameter byte names it, if it is 0 to 3. -/
def windowNo (n : Nat) : Option WindowNo := if h : n < 4 then some ⟨n, h⟩ else none

/-- WINDOW after its header check (R21, R22). -/
def State.runWindow (snap : BitVec 1024) (s : State) : State :=
  match windowNo (param snap 0 1) with
  | none => s.answer [] (.badParam, 1)
  | some w =>
    match s.windowCheck w snap with
    | some a => s.answer [] a
    | none => (s.describeWindow w (windowOf snap)).answer [] (.done, 0)

/-- WINDOW (R21, R22). -/
def execWindow (s : State) : Out := .next (s.runCommand .window State.runWindow)

/-! ### WINDOW_OFF (R23) -/

/-- What WINDOW_OFF does to the buffer's queue entry, analysis and bank, by the buffer's state (R23). A result reference is
dropped by the state change that follows. -/
def State.releaseBuffer (w : WindowNo) (s : State) : State :=
  match s.buffers[w].state with
  | .filling b => s.emptyBank b
  | .queued b => (s.unqueue w).emptyBank b
  | .analysing b => (s.abortAnalysis).emptyBank b
  | .disabled | .idle | .blind | .ready _ | .shown _ => s

/-- The effects of WINDOW_OFF on a buffer that is not DISABLED (R23). The supervision timer runs on. -/
def State.disableWindow (w : WindowNo) (s : State) : State :=
  let t := s.releaseBuffer w
  let u := if t.scan.pointer = some w then t.endScan else t
  { u.setBuffer w { state := .disabled, written := 0 } with
    windows := u.windows.set w { u.windows[w] with enable := false } }

/-- WINDOW_OFF after its header check (R23). -/
def State.runWindowOff (snap : BitVec 1024) (s : State) : State :=
  match windowNo (param snap 0 1) with
  | none => s.answer [] (.badParam, 1)
  | some w =>
    if s.buffers[w].state = .disabled then s.answer [] (.done, 0) else (s.disableWindow w).answer [] (.done, 0)

/-- WINDOW_OFF (R23). -/
def execWindowOff (s : State) : Out := .next (s.runCommand .windowOff State.runWindowOff)

/-! ### SET_GRID (R42, R43) -/

/-- The checks of R42. -/
def State.gridCheck (s : State) (snap : BitVec 1024) : Option Answer :=
  let columns := param snap 0 2
  let rows := param snap 2 2
  let lead := param snap 4 2
  if ((List.finRange 4).all fun w => s.buffers[w].state == .disabled) = false then some (.state, 1)
  else if s.protection.backlight ≠ .off then some (.state, 2)
  else if ¬(1 ≤ columns ∧ columns ≤ 96) then some (.badParam, 1)
  else if ¬(1 ≤ rows ∧ rows ≤ 54) then some (.badParam, 2)
  else if 5184 < columns * rows then some (.badParam, 3)
  else if 1023 < lead then some (.badParam, 4)
  else none

/-- A line with its suspect marks cleared. -/
def clearSuspects (x : Line) : Line := { x with openSuspect := 0, shortSuspect := 0 }

/-- The effects of an accepted SET_GRID (R43, R158). Every slot is free: check 1 leaves no buffer reference, and the analysis
and the scan that could hold one, none at this point, stay none. -/
def State.replaceGrid (g : Grid) (s : State) : State :=
  forLines (fun l => State.modifyLine l clearSuspects)
    { s.abortAnalysis with
      grid := g
      banks := (s.banks.set 0 s.banks[0].emptied).set 1 s.banks[1].emptied
      history := History.reset
      drive := ZoneTable.empty
      scan := ScanTracker.reset
      faults := { openMarks := 0, shortMarks := 0 }
      tables :=
        { s.tables with
          zoneMapState := .invalid
          calibrationState := .invalid
          zoneMap := ZoneTable.empty
          calibration := ZoneTable.empty } }

/-- SET_GRID after its header check (R42, R43). -/
def State.runSetGrid (snap : BitVec 1024) (s : State) : State :=
  match s.gridCheck snap with
  | some a => s.answer [] a
  | none =>
    (s.replaceGrid { columns := param snap 0 2, rows := param snap 2 2, leadLines := param snap 4 2 }).answer []
      (.done, 0)

/-- SET_GRID (R42, R43). -/
def execSetGrid (s : State) : Out := .next (s.runCommand .setGrid State.runSetGrid)

/-! ### SELECT_SET (R74) -/

/-- Selects a parameter set (R74). -/
def State.selectSet (x : SetId) (s : State) : State := { s with engine := { s.engine with selected := x } }

/-- SELECT_SET after its header check (R74). -/
def State.runSelectSet (snap : BitVec 1024) (s : State) : State :=
  match param snap 0 1 with
  | 0 => (s.selectSet .a).answer [] (.done, 0)
  | 1 => (s.selectSet .b).answer [] (.done, 0)
  | _ => s.answer [] (.badParam, 1)

/-- SELECT_SET (R74). -/
def execSelectSet (s : State) : Out := .next (s.runCommand .selectSet State.runSelectSet)

/-! ### BACKLIGHT (R131, R132) -/

/-- Whether every mapped zone of the grid names a position below the driver count of its line (check 5 of R131). -/
def State.positionsExist (s : State) : Bool :=
  (List.range s.grid.zones).all fun z =>
    match s.zoneChannel z with
    | some c => decide (c.position.val < s.driverCount c.line)
    | none => true

/-- The checks of R131 in OFF: the detail of the first that fails. -/
def State.backlightCheck (s : State) : Option Nat :=
  if s.protection.thermal = .shutdown then some 1
  else if s.tables.zoneMapState ≠ .valid then some 2
  else if s.tables.lineSetupState ≠ .valid then some 3
  else if s.tables.limitsState ≠ .valid then some 4
  else if s.positionsExist = false then some 5
  else none

/-- BACKLIGHT(ON) by the backlight state (R131). -/
def State.backlightOn (s : State) : State :=
  match s.protection.backlight with
  | .off =>
    match s.backlightCheck with
    | some d => s.answer [] (.state, d)
    | none => ((s.setTarget true).powerUpBegin).answer [] (.done, 0)
  | .poweringUp => (s.setTarget true).answer [] (.done, 0)
  | .on => (s.setTarget true).answer [] (.done, 0)
  | .poweringDown => s.answer [] (.busy, 0)
  | .thermalOff => if s.protection.target then s.answer [] (.done, 0) else s.answer [] (.state, 1)
  | .latchedOff => s.answer [] (.state, 6)

/-- BACKLIGHT(ON) after its header check; a parameter that names neither ON nor OFF is answered BAD_PARAM (R131). -/
def State.runBacklightOn (snap : BitVec 1024) (s : State) : State :=
  if param snap 0 1 = 1 then s.backlightOn else s.answer [] (.badParam, 7)

/-- BACKLIGHT_ON (R131). -/
def execBacklightOn (s : State) : Out := .next (s.runCommand .backlightOn State.runBacklightOn)

/-- The effects of BACKLIGHT(OFF) by the backlight state (R132). -/
def State.backlightOff (s : State) : State :=
  let t := s.setTarget false
  match s.protection.backlight with
  | .off => t
  | .poweringUp => t.powerDownBegin
  | .on => t.powerDownBegin
  | .poweringDown => t
  | .thermalOff => t.setBacklight .off
  | .latchedOff => t

/-- BACKLIGHT(OFF) after its header check; a parameter that names neither ON nor OFF is answered BAD_PARAM (R131, R132). -/
def State.runBacklightOff (snap : BitVec 1024) (s : State) : State :=
  if param snap 0 1 = 0 then s.backlightOff.answer [] (.done, 0) else s.answer [] (.badParam, 7)

/-- BACKLIGHT_OFF (R132). -/
def execBacklightOff (s : State) : Out := .next (s.runCommand .backlightOff State.runBacklightOff)

/-! ### CLEAR_FAULT (R157) -/

/-- A line number as a parameter byte names it, if it is 0 to 15. -/
def lineNo (n : Nat) : Option LineNo := if h : n < 16 then some ⟨n, h⟩ else none

/-- The effects of CLEAR_FAULT for a line (R124). -/
def State.clearLine (l : LineNo) (s : State) : State :=
  let t := s.modifyLine l fun x => { x with history := [], failures := 0 }
  if t.lines[l].state = .locked then
    let u := t.modifyLine l fun x => { x with state := .off }
    if (u.protection.backlight = .on ∨ u.protection.backlight = .poweringUp) ∧ 0 < u.driverCount l then u.startOrder l
    else u
  else t

/-- CLEAR_FAULT(LINE) after its header check (R124, R157). -/
def State.runClearLine (snap : BitVec 1024) (s : State) : State :=
  if param snap 0 1 = 1 then
    match lineNo (param snap 1 1) with
    | none => s.answer [] (.badParam, 1)
    | some l => (s.clearLine l).answer [] (.done, 0)
  else s.answer [] (.badParam, 2)

/-- CLEAR_FAULT_LINE (R124). -/
def execClearFaultLine (s : State) : Out := .next (s.runCommand .clearFaultLine State.runClearLine)

/-- A line after CLEAR_FAULT for zones (R129). -/
def clearZonesLine (x : Line) : Line :=
  { clearSuspects x with setupOwed := if x.state = .starting ∨ x.state = .running then true else x.setupOwed }

/-- The effects of CLEAR_FAULT for zones (R129). -/
def State.clearZones (s : State) : State :=
  forLines (fun l => State.modifyLine l clearZonesLine) { s with faults := { openMarks := 0, shortMarks := 0 } }

/-- CLEAR_FAULT(ZONES) after its header check (R129, R157). -/
def State.runClearZones (snap : BitVec 1024) (s : State) : State :=
  if param snap 0 1 = 2 then s.clearZones.answer [] (.done, 0) else s.answer [] (.badParam, 2)

/-- CLEAR_FAULT_ZONES (R129). -/
def execClearFaultZones (s : State) : Out := .next (s.runCommand .clearFaultZones State.runClearZones)

/-- CLEAR_FAULT(PROTECTION) after its header check (R147, R157). -/
def State.runClearProtection (snap : BitVec 1024) (s : State) : State :=
  if param snap 0 1 = 3 then s.clearProtection.1.answer [] (.done, s.clearProtection.2) else s.answer [] (.badParam, 2)

/-- CLEAR_FAULT_PROTECTION (R147). -/
def execClearFaultProtection (s : State) : Out := .next (s.runCommand .clearFaultProtection State.runClearProtection)

/-! ### A code that names no command (R153) -/

/-- BAD_COMMAND (R153): a slot of this row never passes its header check, which answers it. -/
def execBadCommand (s : State) : Out := .next (s.runCommand .badCommand fun _ t => t)

end Sys2Proof.Machine
end

