-- ==== Sys2Proof/Machine/Compensation.lean ====
section
/-! DEFINITION. Pixel Compensation: the return beat of a display read, scaled by gains interpolated from the Zone Drive
Table (chapter 6). -/

namespace Sys2Proof.Machine

/-- The doubled centre of column (or row) `i` of `n` over `size` pixels (R97). -/
def doubledCentre (n size i : Nat) : Nat := extentStart n size i + extentStart n size (i + 1)

/-- The place of a doubled position among `n` centres: the last centre at or before it and the weight toward the next, with
weight 0 before the first centre and from the last one on (R98, R99). -/
def place (n size pos : Nat) : Nat × Nat :=
  if pos < doubledCentre n size 0 then (0, 0)
  else
    let i := lastAtMost n (doubledCentre n size) pos
    if i + 1 = n then (i, 0)
    else (i, (pos - doubledCentre n size i) * 256 / (doubledCentre n size (i + 1) - doubledCentre n size i))

/-- The gain of the Zone Drive Table at a row and column. -/
def State.gainAt (s : State) (row col : Nat) : Nat := (s.drive.get (row * s.grid.columns + col)).gain

/-- The blended gain at a place given by its row, column and weights (R100). -/
def State.blend (s : State) (rl wy cl wx : Nat) : Nat :=
  let cr := if wx = 0 then cl else cl + 1
  let rb := if wy = 0 then rl else rl + 1
  ((s.gainAt rl cl * (256 - wx) + s.gainAt rl cr * wx) * (256 - wy)
    + (s.gainAt rb cl * (256 - wx) + s.gainAt rb cr * wx) * wy + 32768) / 65536

/-- The blended gain of the pixel at `x` on the beat's line (R97 to R100). -/
def State.blendedGain (s : State) (c : ReadClass) (x : Nat) : Nat :=
  let h := place s.grid.columns c.width (2 * x + 1)
  let v := place s.grid.rows c.height (2 * c.line + 1)
  s.blend v.1 v.2 h.1 h.2

/-- The full-scale value of a colour field: 1023 or 255 (R101, R102). -/
def fullScale : PixelFormat → Nat
  | .rgb10 => 1023
  | .rgb8 => 255

/-- A colour field scaled by a gain, before the clamp (R101, R102). -/
def scaled (g v : Nat) : Nat := (v * g + 128) / 256

/-- A colour field scaled by a gain and clamped (R101, R102). -/
def scaleField (fmt : PixelFormat) (g v : Nat) : Nat := min (fullScale fmt) (scaled g v)

/-- Whether the hue-preserving clip acts on a word whose largest field is `m` (R103). -/
def clipActs (c : ReadClass) (g m : Nat) : Bool := c.hueClip && decide (0 < m) && decide (fullScale c.format < scaled g m)

/-- The gain used for a word: the blended gain, or the clip's replacement by the formula of R103 (assumption 24). -/
def wordGain (c : ReadClass) (g m : Nat) : Nat := if clipActs c g m then fullScale c.format * 256 / m else g

/-- The largest of a word's three colour fields. -/
def largestField (fmt : PixelFormat) (w : Word) : Nat :=
  let q := colours fmt w
  max q.1 (max q.2.1 q.2.2)

/-- A pixel word under the blended gain `g` (R96, R101 to R103). -/
def compensateWord (c : ReadClass) (g : Nat) (w : Word) : Word :=
  let q := colours c.format w
  let u := wordGain c g (largestField c.format w)
  putColours c.format w (scaleField c.format u q.1) (scaleField c.format u q.2.1) (scaleField c.format u q.2.2)

/-- Whether the clamp takes some field of the word or the clip replaces its gain (R104). -/
def limitsWord (c : ReadClass) (g : Nat) (w : Word) : Bool :=
  let q := colours c.format w
  let u := wordGain c g (largestField c.format w)
  clipActs c g (largestField c.format w)
  || decide (fullScale c.format < scaled u q.1) || decide (fullScale c.format < scaled u q.2.1)
  || decide (fullScale c.format < scaled u q.2.2)

/-- Whether an offered beat is compensated (R95). -/
def State.compensates (s : State) (c : ReadClass) : Bool :=
  c.compensate && decide (1 ≤ c.active) && decide (8 * s.grid.columns ≤ c.width) && decide (8 * s.grid.rows ≤ c.height)

/-- The beat that leaves the upstream port for a received beat of this classification (R95, R96). -/
def State.compensate (s : State) (c : ReadClass) (d : Beat) : Beat :=
  if s.compensates c then
    beatOfWords fun k =>
      if k < c.active then compensateWord c (s.blendedGain c (c.firstPixel + k)) (pixelWord d k) else pixelWord d k
  else d

/-- Whether the compensation of the beat limits some pixel of it (R104). -/
def State.clips (s : State) (c : ReadClass) (d : Beat) : Bool :=
  s.compensates c
  && (List.range (min 8 c.active)).any fun k =>
      limitsWord c (s.blendedGain c (c.firstPixel + k)) (pixelWord d k)

end Sys2Proof.Machine
end

