-- ==== Sys2Proof/Machine/Tables.lean ====
section
/-! DEFINITION. Table loading: the checks of LOAD_TABLE, the beginning of a load, the fetch, its end, and its failure at a
downstream DOWN (section 9.4, R172), with the meaning of TABLE_LOAD_BEGIN. -/

namespace Sys2Proof.Machine

/-! ### CRC-16 (R172) -/

/-- One shift of the CRC-16 register. -/
def crc16Shift (c : BitVec 16) : BitVec 16 := if c.getLsbD 15 then (c <<< 1) ^^^ 0x1021#16 else c <<< 1

/-- The CRC-16 register after one more byte. -/
def crc16Byte (c : BitVec 16) (b : Byte) : BitVec 16 := Nat.iterate crc16Shift 8 (c ^^^ (b.setWidth 16 <<< 8))

/-- The CRC-16 register after a run of bytes in address order. -/
def crc16Bytes (c : BitVec 16) (bytes : List Byte) : BitVec 16 := bytes.foldl crc16Byte c

/-- The CRC-16 register before the first byte. -/
def crc16Start : BitVec 16 := 0xFFFF

/-! ### Table states -/

/-- The tables with one table's state replaced. -/
def Tables.withState (t : Tables) (id : TableId) (x : TableState) : Tables :=
  match id with
  | .zoneMap => { t with zoneMapState := x }
  | .calibration => { t with calibrationState := x }
  | .lineSetup => { t with lineSetupState := x }
  | .setA => { t with setAState := x }
  | .setB => { t with setBState := x }
  | .limits => { t with limitsState := x }

/-- Changes a table's state; a duty ceiling that the change moves is signalled (R145, R158). -/
def State.setTableState (id : TableId) (x : TableState) (s : State) : State :=
  ({ s with tables := s.tables.withState id x }).settleCeiling s.ceiling

/-- Changes the load of the executing command. -/
def State.setLoad (l : Load) (offers : List Injected) (s : State) : State :=
  match s.ring.executing with
  | none => s
  | some c => { s with ring := { s.ring with executing := some { c with load := some l, offers := offers } } }

/-- The load of the executing command. -/
def State.load (s : State) : Option Load :=
  match s.ring.executing with
  | none => none
  | some c => c.load

/-! ### LOAD_TABLE (R159) -/

/-- The bytes a load fetches. -/
def Load.bytes (l : Load) : Nat := l.count * entrySize l.table

/-- The beats a load fetches (R161). -/
def Load.beats (l : Load) : Nat := ceilDiv l.bytes 32

/-- The load a LOAD_TABLE asks for once its table is known, with the count clamped to the table end (R159). -/
def State.loadOf (s : State) (t : TableId) (snap : BitVec 1024) : Load :=
  let offset := param snap 4 2
  let count := param snap 6 2
  let clamped := tableIsArray t && decide (s.tableEnd t < offset + count)
  { table := t
    offset := offset
    count := if clamped then s.tableEnd t - offset else count
    clamped := clamped
    source := BitVec.ofNat 32 (param snap 8 4)
    crc := BitVec.ofNat 16 (param snap 2 2)
    phase := .waiting }

/-- Checks 2 to 7 of R159 for a LOAD_TABLE of table `t`. -/
def State.loadCheck (s : State) (t : TableId) (snap : BitVec 1024) : Option Answer :=
  let offset := param snap 4 2
  let count := param snap 6 2
  let source := param snap 8 4
  if (t = .zoneMap ∨ t = .lineSetup) ∧ s.protection.backlight ≠ .off then some (.state, 1)
  else if tableIsArray t = false ∧ ¬(offset = 0 ∧ count = 1) then some (.badParam, 2)
  else if tableIsArray t ∧ count = 0 then some (.badParam, 3)
  else if tableIsArray t ∧ s.tableEnd t ≤ offset then some (.badParam, 4)
  else if source % 32 ≠ 0 then some (.badParam, 5)
  else if 2 ^ 32 < source + (s.loadOf t snap).bytes then some (.badParam, 6)
  else none

/-- LOAD_TABLE after its header check: an answer, or a load that waits to begin (R159, R160). -/
def State.runLoadTable (snap : BitVec 1024) (s : State) : State :=
  match tableOfCode (param snap 0 1) with
  | none => s.answer [] (.badParam, 1)
  | some t =>
    match s.loadCheck t snap with
    | some a => s.answer [] a
    | none => s.setLoad (s.loadOf t snap) []

/-- LOAD_TABLE (R159). -/
def execLoadTable (s : State) : Out := .next (s.runCommand .loadTable State.runLoadTable)

/-! ### The beginning of a load (R160, R161) -/

/-- The injected reads of a fetch, in ascending address order: 8 beats each, the last of fewer when the beats are not a
multiple of 8 (R161). -/
def fetchReads (l : Load) : List Injected :=
  (List.range (ceilDiv l.beats 8)).map fun i =>
    { request :=
        { requester := 63
          address := l.source + BitVec.ofNat 32 (256 * i)
          body := .read (min 8 (l.beats - 8 * i)) }
      purpose := .fetch l.table }

/-- The beginning of a load: the table becomes LOADING and the fetch is formed (R160, R161). -/
def State.beginLoad (l : Load) (s : State) : State :=
  (s.setTableState l.table .loading).setLoad { l with phase := .fetching 0 crc16Start 0 } (fetchReads l)

/-- Whether a waiting load can begin: downstream link UP and, for a table that analyses read, the engine IDLE (R160). -/
def State.loadCanBegin (s : State) (l : Load) : Bool :=
  s.link.downstream == .up && (l.table == .lineSetup || s.engine.analysis.isNone)

/-- TABLE_LOAD_BEGIN (R160). -/
def execTableLoadBegin (s : State) : Out :=
  .next (s.whenLive fun s =>
    match s.load with
    | none => s
    | some l =>
      match l.phase with
      | .waiting => if s.loadCanBegin l then s.beginLoad l else s
      | .fetching _ _ _ => s)

/-! ### The fetch (R161) -/

/-- Writes into a table the entries that beat `b` of the fetch completes. `n` bytes of the beat lie in the fetch, and `kept`
is the beat before it. A field of SET_A or SET_B takes its new value as its bytes arrive (R73). -/
def Tables.takeBeat (t : Tables) (l : Load) (b n : Nat) (kept data : Beat) : Tables :=
  match l.table with
  | .zoneMap =>
    { t with
      zoneMap :=
        (List.range (n / 4)).foldl (fun z j => z.set (l.offset + 8 * b + j) (data.extractLsb' (32 * j) 32)) t.zoneMap }
  | .calibration =>
    { t with
      calibration :=
        (List.range (n / 2)).foldl (fun z j => z.set (l.offset + 16 * b + j) (data.extractLsb' (16 * j) 16))
          t.calibration }
  | .lineSetup =>
    { t with
      lineSetup :=
        (List.range (n / 16)).foldl
          (fun v j =>
            if h : l.offset + 2 * b + j < 16 then v.set (l.offset + 2 * b + j) (data.extractLsb' (128 * j) 128) h else v)
          t.lineSetup }
  | .setA => { t with setA := putSlotBeat t.setA b data }
  | .setB => { t with setB := putSlotBeat t.setB b data }
  | .limits => if b = 1 then { t with limits := data ++ kept } else t

/-- The entries a fetch has written after `b` beats (R161, R164). -/
def Load.entriesAfter (l : Load) (b : Nat) : Nat := min l.count (32 * b / entrySize l.table)

/-! ### The end of a load (R162, R163) -/

/-- Whether the ZONE_MAP entry of zone `z` fails validation (R163). -/
def entryFails (map : ZoneTable Word (0#32)) (z : Nat) : Bool :=
  entryMapped (map.get z)
  && ((entryChannel (map.get z)).isNone
      || (List.range z).any fun y => entryChannel (map.get y) == entryChannel (map.get z))

/-- The lowest failing zone index of the grid in force (R163). -/
def State.mapFailure (s : State) : Option Nat := (List.range s.grid.zones).find? fun z => entryFails s.tables.zoneMap z

/-- A load fails: its table becomes INVALID, TABLE_INVALID is added with the status code as detail, and the command is
answered (R162 to R164, R167). -/
def State.failLoad (t : TableId) (a : Answer) (s : State) : State :=
  ((s.setTableState t .invalid).addEvent .tableInvalid (.table t) (statusCode a.1)).answer [] a

/-- A load succeeds: its table becomes VALID and the command is answered DONE, or CLAMPED (R162). -/
def State.passLoad (l : Load) (s : State) : State :=
  (s.setTableState l.table .valid).answer [] (if l.clamped then .clamped else .done, l.count)

/-- The last beat of the fetch has arrived with this CRC-16 (R162, R163). -/
def State.endLoad (l : Load) (crc : BitVec 16) (s : State) : State :=
  if crc = l.crc then
    if l.table = .zoneMap then
      match s.mapFailure with
      | some z => s.failLoad l.table (.badTable, z)
      | none => s.passLoad l
    else s.passLoad l
  else s.failLoad l.table (.crcFail, crc.toNat)

/-- A return beat of the fetch in progress (R161, R162). -/
def State.takeFetchBeat (c : Command) (l : Load) (b : Nat) (crc : BitVec 16) (kept data : Beat) (s : State) : State :=
  let n := min 32 (l.bytes - 32 * b)
  let crc' := crc16Bytes crc (beatBytes data n)
  let t := { s with tables := s.tables.takeBeat l b n kept data }
  if l.beats ≤ b + 1 then t.endLoad l crc'
  else t.setLoad { l with phase := .fetching (b + 1) crc' data } c.offers

/-- A return beat of an injected read of table `id`; a beat whose fetch has ended is discarded (R14). -/
def State.fetchBeat (id : TableId) (data : Beat) (s : State) : State :=
  match s.ring.executing with
  | none => s
  | some c =>
    match c.load with
    | none => s
    | some l =>
      match l.phase with
      | .waiting => s
      | .fetching b crc kept => if l.table = id then s.takeFetchBeat c l b crc kept data else s

/-- A return beat of an injected read: only a table fetch reads (R14, section 1.6). -/
def State.fetchReturn (purpose : Purpose) (data : Beat) (s : State) : State :=
  match purpose with
  | .fetch id => s.fetchBeat id data
  | .data => s
  | .status _ => s

/-! ### A downstream DOWN (R155, R164) -/

/-- Whether an injected request is a write, which is offered again after a downstream DOWN (R155). -/
def Injected.isWrite (q : Injected) : Bool :=
  match q.purpose with
  | .data => true
  | .status _ => true
  | .fetch _ => false

/-- What a downstream DOWN does to the executing command: a load in progress fails, and writes that were offered and not
sent wait to be offered again, before the remaining ones (R155, R164). A load still waiting is kept. -/
def State.stallRing (unsent : List Injected) (s : State) : State :=
  match s.ring.executing with
  | none => s
  | some c =>
    match c.load with
    | some l =>
      match l.phase with
      | .fetching b _ _ => s.failLoad l.table (.linkDown, l.entriesAfter b)
      | .waiting => s
    | none =>
      { s with ring := { s.ring with executing := some { c with offers := unsent.filter Injected.isWrite ++ c.offers } } }

end Sys2Proof.Machine
end

