-- ==== Sys2Proof/Machine/Reports.lean ====
section
/-! DEFINITION. READ_STATUS and READ_EVENTS: the status block and the event records as the part writes them into the control
region (sections 9.6 and 9.7, 10.6 and 10.7). -/

namespace Sys2Proof.Machine

/-- A flag as a field value. -/
def bit (b : Bool) : Nat := if b then 1 else 0

/-- The number of zones of the grid in force with at least one Zone Fault Map mark (R166). -/
def State.markedZones (s : State) : Nat :=
  ((List.range s.grid.zones).filter fun z => s.faults.openMarks.getLsbD z || s.faults.shortMarks.getLsbD z).length

/-- The result the scan uses (R94). -/
def State.scanRecord (s : State) : Option Result :=
  match s.scan.result with
  | some k => some s.results[k]
  | none => none

/-- The fields of the status block that come from the scan result; all 0 when there is none (section 10.6). -/
def resultFields (r : Option Result) : List (Nat × Nat × Nat) :=
  match r with
  | none => []
  | some r =>
    [(0x37, 1, 1), (0x38, 2, r.tag.toNat), (0x3A, 2, r.mean), (0x3C, 4, r.total), (0x40, 4, r.cap), (0x44, 4, r.scale),
     (0x54, 1, setUsedCode r.setUsed), (0x55, 1, r.window.val), (0x56, 2, r.darkZones),
     (0x58, 1, bit r.budgetLimited + 2 * bit r.boostLimited)]

/-- The other fields of the status block (section 10.6). -/
def State.statusFields (s : State) : List (Nat × Nat × Nat) :=
  let p := s.protection
  [(0x00, 4, s.accrued.toNat), (0x04, 4, s.ms.toNat), (0x08, 1, backlightCode p.backlight), (0x09, 1, bit p.target),
   (0x0A, 1, sequencerCode p.sequencer), (0x0B, 1, thermalCode p.thermal), (0x0C, 1, supplyCode p.supply),
   (0x0D, 1, bit p.uvLatch), (0x0E, 1, bit p.trip.isSome),
   (0x0F, 1, match p.trip with
      | some t => releaseCode t.mode
      | none => 0),
   (0x10, 2, s.ceiling), (0x12, 1, s.events.length), (0x13, 1, s.ring.index.val), (0x14, 4, s.budgetCap)]
  ++ ((List.finRange 16).map fun l => (0x18 + l.val, 1, lineStateCode s.lines[l].state))
  ++ ([TableId.zoneMap, .calibration, .lineSetup, .setA, .setB, .limits].map fun t =>
       (0x27 + tableCode t, 1, tableStateCode (s.tables.stateOf t)))
  ++ [(0x2E, 1, setCode s.engine.selected), (0x2F, 1, fallbackCode s.scan.fallback), (0x30, 2, s.grid.columns),
      (0x32, 2, s.grid.rows), (0x34, 2, s.grid.leadLines),
      (0x36, 1, match s.scan.pointer with
        | some w => w.val
        | none => 0xFF),
      (0x48, 2, s.markedZones), (0x4C, 2, p.codes.vled.toNat), (0x4E, 2, p.codes.tb0.toNat),
      (0x50, 2, p.codes.tb1.toNat), (0x52, 2, p.codes.tdie.toNat)]

/-- The status block, 256 bytes (section 10.6). -/
def State.statusBlock (s : State) : BitVec 2048 := packFields 2048 (s.statusFields ++ resultFields s.scanRecord)

/-- The one WRITE of 8 beats that carries the status block (R166). -/
def statusBlockWrite (address : Nat) (block : BitVec 2048) : Injected :=
  { request :=
      { requester := 63
        address := BitVec.ofNat 32 address
        body :=
          .write ((List.range 8).map fun i =>
            { data := block.extractLsb' (256 * i) 256, enables := BitVec.allOnes 32 }) }
    purpose := .data }

/-- READ_STATUS after its header check: the snapshot is taken, then the accrued flags are cleared if clear is 1 (R166). -/
def State.runReadStatus (snap : BitVec 1024) (s : State) : State :=
  let clear := param snap 0 1
  if clear ≤ 1 then
    let w := statusBlockWrite (s.controlBase + 0xC00) s.statusBlock
    (if clear = 1 then { s with accrued := 0 } else s).answer [w] (.done, 0)
  else s.answer [] (.badParam, 1)

/-- READ_STATUS (R166). -/
def execReadStatus (s : State) : Out := .next (s.runCommand .readStatus State.runReadStatus)

/-- An event record, 16 bytes (section 10.7). -/
def eventRecord (e : Event) : BitVec 128 :=
  packFields 128
    [(0, 1, eventCode e.kind), (1, 1, subjectType e.subject), (2, 2, subjectField e.subject), (4, 4, e.time.toNat),
     (8, 2, e.detail.toNat)]

/-- Beat `j` of the event area writes: records `2 j` and `2 j + 1`; the last beat of an odd count enables 16 bytes only, its
other lanes carrying free value number `n` (R168, assumption 3). -/
def eventBeat (records : List Event) (n j : Nat) : WriteBeat :=
  match records[2 * j]?, records[2 * j + 1]? with
  | some a, some b => { data := eventRecord b ++ eventRecord a, enables := BitVec.allOnes 32 }
  | some a, none => maskedBeat 0x0000FFFF#32 ((eventRecord a).setWidth 256) n
  | none, _ => { data := 0, enables := 0 }

/-- The WRITEs that carry `k` records: ceil (k / 2) beats, up to 8 a request, from `address` upward (R168). -/
def eventWrites (address : Nat) (records : List Event) (n : Nat) : List Injected :=
  let beats := ceilDiv records.length 2
  (List.range (ceilDiv beats 8)).map fun i =>
    { request :=
        { requester := 63
          address := BitVec.ofNat 32 (address + 256 * i)
          body := .write ((List.range' (8 * i) (min 8 (beats - 8 * i))).map (eventBeat records n)) }
      purpose := .data }

/-- READ_EVENTS after its header check: the oldest `min n count` records leave the queue and are written (R168). A count
above 32 is answered CLAMPED, but an empty queue always DONE with detail 0 (assumption 23). -/
def State.runReadEvents (snap : BitVec 1024) (s : State) : State :=
  let n := param snap 0 2
  if n = 0 then s.answer [] (.badParam, 1)
  else
    let k := min (min n 32) s.events.length
    let writes := eventWrites (s.controlBase + 0x800) (s.events.take k) s.freeCount
    ({ s with events := s.events.drop k, freeCount := s.freeCount + 1 }).answer writes
      (if 32 < n ∧ k ≠ 0 then .clamped else .done, k)

/-- READ_EVENTS (R168). -/
def execReadEvents (s : State) : Out := .next (s.runCommand .readEvents State.runReadEvents)

end Sys2Proof.Machine
end

