-- ==== Sys2Proof/Machine/LinkPath.lean ====
section
/-! DEFINITION. The Link Path: reception and classification of requests, downstream arbitration, return routing, link states
and RESET_N (chapter 1), with the meanings of the link and reset commands. -/

namespace Sys2Proof.Machine

/-! ### Classifying a beat (R3 to R5) -/

/-- Where a beat lies (R3). -/
inductive Place where
  | control (offset : Nat)
  | window (w : WindowNo) (line firstPixel active : Nat)
  | unclassified
  deriving DecidableEq, Repr

/-- Whether address `a` lies in an enabled window (R3). -/
def Window.covers (x : Window) (a : Nat) : Bool := x.enable && decide (x.base.toNat ≤ a) && decide (a < x.rangeEnd)

/-- The active pixel count of a beat whose first pixel is `x0` (R3). -/
def activePixels (width x0 : Nat) : Nat := if width ≤ x0 then 0 else min 8 (width - x0)

/-- Classifies the beat at address `a` (R3). -/
def State.locate (s : State) (a : Nat) : Place :=
  if s.controlBase ≤ a ∧ a - s.controlBase < 4096 then .control (a - s.controlBase)
  else
    match (List.finRange 4).find? fun w => s.windows[w].covers a with
    | some w =>
      let x := s.windows[w]
      let off := a - x.base.toNat
      let x0 := off % x.pitch / 4
      .window w (off / x.pitch) x0 (activePixels x.width x0)
    | none => .unclassified

/-- Whether a requester passes a filter (R4, R5). -/
def filterPasses (id filterMatch mask : BitVec 6) : Bool := (id &&& mask) == (filterMatch &&& mask)

/-- The classification of a beat that lies in no window. R5 gives it window none; the other fields hold 0, off and RGB10,
and no block acts on them (DESIGN CHOICE, assumption 22). -/
def noClass : ReadClass :=
  { window := none, line := 0, firstPixel := 0, active := 0, scanMatch := false, compensate := false, format := .rgb10,
    hueClip := false, width := 0, height := 0 }

/-- The read classification of a beat at address `a` (R5). -/
def State.readClass (s : State) (id : BitVec 6) (a : Nat) : ReadClass :=
  match s.locate a with
  | .window w line x0 active =>
    let x := s.windows[w]
    let m := filterPasses id x.scanMatch x.scanMask
    { window := some w, line := line, firstPixel := x0, active := active, scanMatch := m,
      compensate := m && x.compensation, format := x.format, hueClip := x.hueClip, width := x.width, height := x.height }
  | .control _ => noClass
  | .unclassified => noClass

/-! ### Reception (R1, R2, R6, R7) -/

/-- The upstream link goes DOWN (R15). -/
def State.upstreamDown (s : State) : State := { s with link := { s.link with upstream := .down, credits := 0 } }

/-- Whether a request that arrives is a link protocol error: no outstanding credit, a beat count outside 1 to 8, or an
address that is no multiple of 32 (R1). -/
def State.protocolError (s : State) (r : Request) : Bool :=
  s.link.credits == 0 || !(decide (1 ≤ r.beatCount) && decide (r.beatCount ≤ 8)) || r.address.toNat % 32 != 0

/-- The hand-off of one write beat (R6). -/
def State.handWrite (id : BitVec 6) (a : Nat) (b : WriteBeat) (m : RequestMarks) (s : State) : RequestMarks × State :=
  match s.locate a with
  | .control offset => (m, s.captureBeat offset b)
  | .window w line x0 active =>
    let x := s.windows[w]
    s.writeBeat
      { window := w, line := line, firstPixel := x0, active := active,
        writerPass := filterPasses id x.writerMatch x.writerMask, beat := b } m
  | .unclassified => (m, s)

/-- The hand-off of the beats of a WRITE, beat `k` first, in beat order (R6). -/
def State.handWrites (r : Request) : List WriteBeat → Nat → RequestMarks → State → State
  | [], _, _, s => s
  | b :: rest, k, m, s =>
    let q := s.handWrite r.requester (r.beatAddress k).toNat b m
    State.handWrites r rest (k + 1) q.1 q.2

/-- The hand-off of one classified beat of a READ (R7). -/
def State.handRead (c : ReadClass) (s : State) : State :=
  match c.window with
  | some w => if c.scanMatch then s.scanBeat w c.line else s
  | none => s

/-- The read classifications of the beats of a request: one per beat of a READ, none for a WRITE (R5, R8). -/
def State.classesOf (s : State) (r : Request) : List ReadClass :=
  match r.body with
  | .write _ => []
  | .read n => (List.range n).map fun k => s.readClass r.requester (r.beatAddress k).toNat

/-- A request joins the forward queue and spends a credit (R2, R8). -/
def State.enqueue (r : Request) (s : State) : State :=
  { s with
    link :=
      { s.link with
        credits := s.link.credits - 1
        forward := s.link.forward ++ [{ request := r, classes := s.classesOf r }] } }

/-- Reception of a request: it joins the forward queue and its beats are handed on (R1, R6, R7). -/
def State.receive (r : Request) (s : State) : State :=
  match r.body with
  | .write beats => (s.enqueue r).handWrites r beats 0 { begun := [], finished := [] }
  | .read _ => (s.classesOf r).foldl (fun t c => t.handRead c) (s.enqueue r)

/-- REQUEST_RECEIVED (R1): nothing is received while the upstream link is DOWN, and a link protocol error takes it DOWN. -/
def execRequestReceived (r : Request) (s : State) : Out :=
  .next (s.whenLive fun s =>
    if s.link.upstream = .down then s
    else if s.protocolError r then s.upstreamDown
    else s.receive r)

/-! ### The downstream request slot (R10, R11) -/

/-- The candidate for the downstream request slot (R10). -/
inductive Candidate where
  | forward (f : Forwarded) (rest : List Forwarded)
  | injected (q : Injected) (rest : List Injected)
  | none
  deriving DecidableEq, Repr

/-- Chooses the candidate (R10). -/
def LinkPath.candidate (k : LinkPath) : Candidate :=
  match k.injected, k.forward with
  | q :: rest, f :: fs => if Config.waitLimit ≤ k.waitCount then .injected q rest else .forward f fs
  | [], f :: fs => .forward f fs
  | q :: rest, [] => .injected q rest
  | [], [] => .none

/-- The tracking list after a request is sent: a READ takes an entry (R11). -/
def LinkPath.track (k : LinkPath) (r : Request) (o : Origin) : List Tracked :=
  if r.isRead then k.tracking ++ [{ origin := o, beatCount := r.beatCount, received := 0 }] else k.tracking

/-- Whether a request cannot go because it is a READ and the tracking list is full (R10). -/
def LinkPath.blocked (k : LinkPath) (r : Request) : Bool := r.isRead && decide (Config.trackingDepth ≤ k.tracking.length)

/-- The forward head is sent: its credit comes back while the upstream link is UP, and it counts against a waiting injected
head (R2, R8, R10). -/
def LinkPath.sendForward (k : LinkPath) (f : Forwarded) (rest : List Forwarded) : LinkPath :=
  { k with
    forward := rest
    credits := if k.upstream = .up then k.credits + 1 else k.credits
    waitCount := if k.injected = [] then k.waitCount else k.waitCount + 1
    tracking := k.track f.request (.forwarded f.classes)
    sentDown := k.sentDown ++ [{ request := f.request, injected := false }] }

/-- The injected head is sent: the wait count becomes 0 (R9, R10). -/
def LinkPath.sendInjected (k : LinkPath) (q : Injected) (rest : List Injected) : LinkPath :=
  { k with
    injected := rest
    waitCount := 0
    tracking := k.track q.request (.injected q.purpose)
    sentDown := k.sentDown ++ [{ request := q.request, injected := true }] }

/-- The end of a command, when its status word write has been sent: the index rises and the ring is IDLE (R154). -/
def State.endCommand (s : State) : State :=
  { s with ring := { s.ring with index := s.ring.index + 1, executing := none } }

/-- Sends the candidate if there is one that can go (R10). -/
def State.sendNext (s : State) : State :=
  match s.link.candidate with
  | .none => s
  | .forward f rest => if s.link.blocked f.request then s else { s with link := s.link.sendForward f rest }
  | .injected q rest =>
    if s.link.blocked q.request then s
    else
      let t := { s with link := s.link.sendInjected q rest }
      match q.purpose with
      | .status _ => t.endCommand
      | .data => t
      | .fetch _ => t

/-- DOWNSTREAM_SEND (R10): nothing is sent while the downstream link is DOWN. -/
def execDownstreamSend (s : State) : Out :=
  .next (s.whenLive fun s => if s.link.downstream = .up then s.sendNext else s)

/-! ### Link states (R15 to R18) -/

/-- UPSTREAM_LINK_DOWN (R15). -/
def execUpstreamLinkDown (s : State) : Out := .next (s.whenLive State.upstreamDown)

/-- The upstream link goes UP: 16 credits less the forward queue's occupancy (R16). -/
def State.upstreamUp (s : State) : State :=
  { s with link := { s.link with upstream := .up, credits := Config.forwardDepth - s.link.forward.length } }

/-- UPSTREAM_LINK_UP (R16). -/
def execUpstreamLinkUp (s : State) : Out := .next (s.whenLive State.upstreamUp)

/-- The downstream link goes DOWN: the injected queue and the tracking list are emptied, and the executing command stalls or
its load fails (R17, R155, R164). -/
def State.downstreamDown (s : State) : State :=
  ({ s with link := { s.link with downstream := .down, injected := [], waitCount := 0, tracking := [] } }).stallRing
    s.link.injected

/-- DOWNSTREAM_LINK_DOWN (R17). -/
def execDownstreamLinkDown (s : State) : Out := .next (s.whenLive State.downstreamDown)

/-- The downstream link goes UP: the queues may drain and the ring resumes (R18). -/
def State.downstreamUp (s : State) : State := { s with link := { s.link with downstream := .up } }

/-- DOWNSTREAM_LINK_UP (R18). -/
def execDownstreamLinkUp (s : State) : Out := .next (s.whenLive State.downstreamUp)

/-! ### Returns (R12 to R14) -/

/-- The tracking list after one more beat of its oldest entry (R12). -/
def countReturn (t : Tracked) (rest : List Tracked) : List Tracked :=
  if t.beatCount ≤ t.received + 1 then rest else { t with received := t.received + 1 } :: rest

/-- The return beat of a FORWARDED entry: compensated and sent upstream, or discarded while the upstream link is DOWN (R13,
R95, R104). -/
def State.returnUpstream (c : ReadClass) (data : Beat) (s : State) : State :=
  if s.link.upstream = .up then
    ({ s with link := { s.link with sentUp := s.link.sentUp ++ [s.compensate c data] } }).setFlagIf (s.clips c data)
      .clipped
  else s

/-- A return beat of the oldest entry `t` (R12): counted, then routed by its origin. -/
def State.routeReturn (t : Tracked) (rest : List Tracked) (data : Beat) (s : State) : State :=
  let u := { s with link := { s.link with tracking := countReturn t rest } }
  match t.origin with
  | .forwarded classes => u.returnUpstream (classes.getD t.received noClass) data
  | .injected purpose => u.fetchReturn purpose data

/-- RETURN_BEAT_RECEIVED (R12): with an empty tracking list the beat is discarded and the downstream link goes DOWN; while
that link is DOWN no beat is received. -/
def execReturnBeatReceived (data : Beat) (s : State) : Out :=
  .next (s.whenLive fun s =>
    if s.link.downstream = .down then s
    else
      match s.link.tracking with
      | [] => s.downstreamDown
      | t :: rest => s.routeReturn t rest data)

/-! ### RESET_N (R19, R149) -/

/-- RESET_ASSERTED (R19): every block takes its reset values. The commands that wait, and the numbering of free values, are
the model's own and stay. -/
def execResetAsserted (s : State) : Out :=
  .next { State.reset with pending := s.pending, freeCount := s.freeCount }

/-- The release of RESET_N: the straps are sampled and the millisecond counter counts from here (R149, "Time"). -/
def State.release (cfg : BitVec 3) (s : State) : State := { s with resetAsserted := false, cfg := cfg, ms := 0 }

/-- RESET_RELEASED (R149): only an asserted RESET_N can be released. -/
def execResetReleased (cfg : BitVec 3) (s : State) : Out := .next (if s.resetAsserted then s.release cfg else s)

end Sys2Proof.Machine
end

