-- ==== Sys2Proof/Machine/Dispatch.lean ====
section
/-! DEFINITION. One arm per command: the meaning of each row of spec/opcode_table.json. -/

namespace Sys2Proof.Machine

/-- The effect of a command on everything but the queue of waiting commands. -/
def exec (i : Instr) (s : State) : Host.Outcome State Fault Refusal :=
  match i with
  | .requestReceived r => Sys2Proof.Machine.execRequestReceived r s
  | .downstreamSend => Sys2Proof.Machine.execDownstreamSend s
  | .returnBeatReceived data => Sys2Proof.Machine.execReturnBeatReceived data s
  | .upstreamLinkDown => Sys2Proof.Machine.execUpstreamLinkDown s
  | .upstreamLinkUp => Sys2Proof.Machine.execUpstreamLinkUp s
  | .downstreamLinkDown => Sys2Proof.Machine.execDownstreamLinkDown s
  | .downstreamLinkUp => Sys2Proof.Machine.execDownstreamLinkUp s
  | .resetAsserted => Sys2Proof.Machine.execResetAsserted s
  | .resetReleased cfg => Sys2Proof.Machine.execResetReleased cfg s
  | .injectedRequestOffer => Sys2Proof.Machine.execInjectedRequestOffer s
  | .analysisStart => Sys2Proof.Machine.execAnalysisStart s
  | .analysisCompletion => Sys2Proof.Machine.execAnalysisCompletion s
  | .supervisionTimerExpiry => Sys2Proof.Machine.execSupervisionTimerExpiry s
  | .setupBuild line => Sys2Proof.Machine.execSetupBuild line s
  | .levelBuild line => Sys2Proof.Machine.execLevelBuild line s
  | .latchBuild line => Sys2Proof.Machine.execLatchBuild line s
  | .pollBuild line => Sys2Proof.Machine.execPollBuild line s
  | .latchEnd line => Sys2Proof.Machine.execLatchEnd line s
  | .returnCheck line bytes => Sys2Proof.Machine.execReturnCheck line bytes s
  | .timeout line => Sys2Proof.Machine.execTimeout line s
  | .waitSlotElapsed line => Sys2Proof.Machine.execWaitSlotElapsed line s
  | .retryDelayElapsed line => Sys2Proof.Machine.execRetryDelayElapsed line s
  | .pollTimerExpiry line => Sys2Proof.Machine.execPollTimerExpiry line s
  | .powerUpStep => Sys2Proof.Machine.execPowerUpStep s
  | .powerDownStep => Sys2Proof.Machine.execPowerDownStep s
  | .analogSample codes => Sys2Proof.Machine.execAnalogSample codes s
  | .coolDownEnd codes => Sys2Proof.Machine.execCoolDownEnd codes s
  | .ocTrip => Sys2Proof.Machine.execOcTrip s
  | .timedRelease => Sys2Proof.Machine.execTimedRelease s
  | .window => Sys2Proof.Machine.execWindow s
  | .windowOff => Sys2Proof.Machine.execWindowOff s
  | .setGrid => Sys2Proof.Machine.execSetGrid s
  | .selectSet => Sys2Proof.Machine.execSelectSet s
  | .backlightOn => Sys2Proof.Machine.execBacklightOn s
  | .backlightOff => Sys2Proof.Machine.execBacklightOff s
  | .loadTable => Sys2Proof.Machine.execLoadTable s
  | .tableLoadBegin => Sys2Proof.Machine.execTableLoadBegin s
  | .readStatus => Sys2Proof.Machine.execReadStatus s
  | .readEvents => Sys2Proof.Machine.execReadEvents s
  | .clearFaultLine => Sys2Proof.Machine.execClearFaultLine s
  | .clearFaultZones => Sys2Proof.Machine.execClearFaultZones s
  | .clearFaultProtection => Sys2Proof.Machine.execClearFaultProtection s
  | .badCommand => Sys2Proof.Machine.execBadCommand s
  | .overcurrentSample asserted => Sys2Proof.Machine.execOvercurrentSample asserted s

end Sys2Proof.Machine
end

