-- ==== Sys2Proof/Safety.lean ====
section
/-! DEFINITION. The terms that the claims use: what the ports have carried, which requests are received, the invariants of
each group of blocks, and what an answered command leaves in the ring. -/

namespace Sys2Proof.Safety

open Sys2Proof.Machine

/-! ### Frames -/

/-- The pieces of the state. -/
inductive Piece where
  | pending
  | resetAsserted
  | cfg
  | ms
  | link
  | windows
  | buffers
  | queue
  | grid
  | banks
  | engine
  | history
  | results
  | drive
  | scan
  | lines
  | faults
  | protection
  | ring
  | tables
  | events
  | accrued
  | freeCount
  deriving DecidableEq, Repr

/-- Whether `t` holds in a piece what `s` holds there. -/
def Keeps (s t : State) : Piece → Prop
  | .pending => t.pending = s.pending
  | .resetAsserted => t.resetAsserted = s.resetAsserted
  | .cfg => t.cfg = s.cfg
  | .ms => t.ms = s.ms
  | .link => t.link = s.link
  | .windows => t.windows = s.windows
  | .buffers => t.buffers = s.buffers
  | .queue => t.queue = s.queue
  | .grid => t.grid = s.grid
  | .banks => t.banks = s.banks
  | .engine => t.engine = s.engine
  | .history => t.history = s.history
  | .results => t.results = s.results
  | .drive => t.drive = s.drive
  | .scan => t.scan = s.scan
  | .lines => t.lines = s.lines
  | .faults => t.faults = s.faults
  | .protection => t.protection = s.protection
  | .ring => t.ring = s.ring
  | .tables => t.tables = s.tables
  | .events => t.events = s.events
  | .accrued => t.accrued = s.accrued
  | .freeCount => t.freeCount = s.freeCount

/-- `t` differs from `s` in the listed pieces at most. -/
def Outside (ps : List Piece) (s t : State) : Prop := ∀ p, p ∉ ps → Keeps s t p

/-! ### The link (chapter 1) -/

/-- The requests of the picture processor since RESET_N, in the order in which they leave or will leave the downstream port:
those already forwarded, then those that wait in the forward queue (R8). -/
def upstreamRequests (k : LinkPath) : List Request :=
  (k.sentDown.filter fun q => !q.injected).map Sent.request ++ k.forward.map Forwarded.request

/-- R1: the request is one that the upstream port receives in this state. -/
def received (s : State) (r : Request) : Prop :=
  s.resetAsserted = false ∧ s.link.upstream = .up ∧ s.link.credits ≠ 0 ∧ 1 ≤ r.beatCount ∧ r.beatCount ≤ 8
  ∧ r.address.toNat % 32 = 0

/-- The bounds of the Link Path: credits and occupancy (R2), the depths of R8, R9 and R11, and the wait count (R10). -/
structure LinkInv (k : LinkPath) : Prop where
  /-- R2: outstanding count and queue occupancy add up to 16 while the upstream link is UP. -/
  up : k.upstream = .up → k.credits + k.forward.length = 16
  /-- R2, R15: the count is 0 while the upstream link is DOWN. -/
  down : k.upstream = .down → k.credits = 0
  forward : k.forward.length ≤ 16
  injected : k.injected.length ≤ 4
  tracking : k.tracking.length ≤ 32
  wait : k.waitCount ≤ 32
  /-- The wait count belongs to the present head of the injected queue (R10). -/
  idle : k.injected = [] → k.waitCount = 0

/-! ### Power (chapters 7 and 8) -/

/-- A line that is OFF or LOCKED. -/
def resting (x : LineState) : Prop := x = .off ∨ x = .locked

/-- What the backlight state says of the sequencer and the lines (section 8.1, R106, R133 to R135, R138). -/
structure PowerInv (s : State) : Prop where
  dark : s.protection.backlight = .off ∨ s.protection.backlight = .thermalOff ∨ s.protection.backlight = .latchedOff →
    s.protection.sequencer = .idle ∧ ∀ l : LineNo, resting s.lines[l].state
  up : s.protection.backlight = .poweringUp → ∃ toStart last, s.protection.sequencer = .up toStart last
  on : s.protection.backlight = .on → s.protection.sequencer = .idle
  falling : s.protection.backlight = .poweringDown →
    (s.protection.sequencer = .draining ∨ s.protection.sequencer = .dropping)
    ∧ ∀ l : LineNo, resting s.lines[l].state ∨ s.lines[l].state = .running
  /-- A frame is in flight on a STARTING or RUNNING line only (R115, R121, R122). -/
  flying : ∀ (l : LineNo) (f : Frame), s.lines[l].inFlight = some f →
    s.lines[l].state = .starting ∨ s.lines[l].state = .running

/-! ### Levels (R67, R72, R79) -/

/-- A gain within its range. -/
def gainOk (g : Nat) : Prop := 256 ≤ g ∧ g ≤ 4096

/-- Every duty and every gain of a result lies in its range. -/
def resultOk (r : Result) : Prop := ∀ z, r.duty.get z ≤ 4095 ∧ gainOk (r.gain.get z)

/-- Every duty and gain of the Zone Drive Table and of every result lies in its range, and the analysis in progress works
under a gain ceiling in its range (R56, R67, R72, R79). -/
structure LevelInv (s : State) : Prop where
  drive : ∀ z, (s.drive.get z).duty ≤ 4095 ∧ gainOk (s.drive.get z).gain
  results : ∀ k : SlotNo, resultOk s.results[k]
  ceiling : ∀ a, s.engine.analysis = some a → gainOk a.snap.params.gainCeiling

/-! ### Buffers, banks, slots and the scan (chapters 2, 4 and 5) -/

/-- What ties windows, buffer records, banks, the analysis queue, the engine, the result slots and the scan together. -/
structure BufferInv (s : State) : Prop where
  /-- A window is enabled exactly when its buffer is not DISABLED (section 2.1). -/
  enabled : ∀ w : WindowNo, s.windows[w].enable = true ↔ s.buffers[w].state ≠ .disabled
  /-- Each bank is held by at most one buffer record (R27). -/
  banks : ∀ (v w : WindowNo) (b : BankNo),
    s.buffers[v].state.bank = some b → s.buffers[w].state.bank = some b → v = w
  /-- Each slot is named by at most one buffer record (R76). -/
  slots : ∀ (v w : WindowNo) (k : SlotNo),
    s.buffers[v].state.result = some k → s.buffers[w].state.result = some k → v = w
  /-- A buffer stands in the queue at most once (R36). -/
  once : s.queue.Nodup
  /-- The queue holds the QUEUED buffers and no others (R36). -/
  queued : ∀ w : WindowNo, w ∈ s.queue ↔ ∃ b, s.buffers[w].state = .queued b
  /-- A buffer is ANALYSING exactly when the analysis in progress is of it, under the bank it holds (R53). -/
  analysing : ∀ (w : WindowNo) (b : BankNo),
    s.buffers[w].state = .analysing b ↔ ∃ a, s.engine.analysis = some a ∧ a.buffer = w ∧ a.bank = b
  /-- No buffer record and no scan names the slot of the analysis in progress (R76). -/
  own : ∀ a, s.engine.analysis = some a →
    (∀ w : WindowNo, s.buffers[w].state.result ≠ some a.slot) ∧ s.scan.result ≠ some a.slot

/-- The Scan Tracker's counts (R81). -/
structure ScanInv (s : State) : Prop where
  /-- A scan runs on an enabled window (R23, R24). -/
  pointer : ∀ w : WindowNo, s.scan.pointer = some w → s.buffers[w].state ≠ .disabled
  idle : s.scan.pointer = none →
    s.scan.result = none ∧ s.scan.progress = 0 ∧ s.scan.passed = 0 ∧ s.scan.committed = 0
  passed : s.scan.passed ≤ s.grid.rows
  held : s.scan.result = none → s.scan.committed = 0
  committed : s.scan.result ≠ none → s.scan.committed = s.scan.passed

/-! ### The ring and the tables (chapter 9) -/

/-- The load in progress is the only reason for a table to be LOADING, and it is one (R158, R160). -/
def TableInv (s : State) : Prop :=
  ∀ t : TableId, s.tables.stateOf t = .loading ↔
    ∃ l beats crc kept, s.load = some l ∧ l.table = t ∧ l.phase = .fetching beats crc kept

/-- The injected requests of the executing command that have not been sent, in the order in which they will be: those that
wait in the injected queue, then those still to be offered. -/
def unsent (s : State) : List Injected :=
  s.link.injected
    ++ (match s.ring.executing with
        | some c => c.offers
        | none => [])

/-- Whether an injected request is the status word write that ends a command (R154). -/
def isStatus (q : Injected) : Prop := ∃ word, q.purpose = .status word

/-- What ties the ring, the injected queue and the table states together. -/
structure RingInv (s : State) : Prop where
  /-- Injected requests belong to the executing command (section 1.6). -/
  idle : s.ring.executing = none → s.link.injected = []
  /-- An injected request's requester ID is 63 (R9). -/
  requester : ∀ q ∈ unsent s, q.request.requester = 63
  /-- The status word write is the last of its command (R154). -/
  last : ∀ before q after, unsent s = before ++ q :: after → isStatus q → after = []
  /-- A command whose load has not ended has no answer yet (R159 to R164). -/
  loading : s.load ≠ none → ∀ q ∈ unsent s, ¬isStatus q
  /-- The load in progress and the table states agree. -/
  tables : TableInv s

/-! ### What a command adds -/

/-- RESET_N is not asserted. -/
def live (s : State) : Prop := s.resetAsserted = false

/-- `t` has the accrued flags of `s` and those of the list, and no others (R165). -/
def flagsAdded (s t : State) (fs : List Flag) : Prop := ∀ f, t.flag f = (s.flag f || decide (f ∈ fs))

/-- The event queue after one more record at the millisecond `now`: at most 32 records stand (R167). -/
def eventsAfter (events : List Event) (now : Word) (kind : EventKind) (subject : Subject) (detail : Nat) : List Event :=
  events.drop (events.length - 31)
    ++ [{ kind := kind, time := now, subject := subject, detail := BitVec.ofNat 16 detail }]

/-- The flag that one more event record sets on a full queue (R167). -/
def overrun (s : State) : List Flag := if 32 ≤ s.events.length then [.eventOverrun] else []

/-- The Link Path after a request has joined the forward queue (R2, R5, R8). -/
def joined (s : State) (r : Request) : LinkPath :=
  { s.link with
    credits := s.link.credits - 1
    forward :=
      s.link.forward
        ++ [{ request := r
              classes :=
                match r.body with
                | .write _ => []
                | .read n => (List.range n).map fun k => s.readClass r.requester (r.beatAddress k).toNat }] }

/-- The whole pixels among the first `n` words of a write beat (R4). -/
def wholePixels (b : WriteBeat) (n : Nat) : List Nat :=
  (List.range n).filter fun k => wordEnables b.enables k == 15#4

/-- PARTIAL_PIXEL, if some of the first `n` words of a write beat is written in part (R4, R50). -/
def partialFlags (b : WriteBeat) (n : Nat) : List Flag :=
  if ∃ k, k < n ∧ wordEnables b.enables k ≠ 15#4 ∧ wordEnables b.enables k ≠ 0#4 then [.partialPixel] else []

/-- A request of one write beat that lies in window `w` at line `y`, first pixel `x0`, with `n` active words, of a requester
that passes the writer filter, with at least one whole pixel among the active words: a counting write (R3, R4, R25). -/
structure CountingWrite (s : State) (r : Request) (b : WriteBeat) (w : WindowNo) (y x0 n : Nat) : Prop where
  received : received s r
  body : r.body = .write [b]
  place : s.locate r.address.toNat = .window w y x0 n
  writer : filterPasses r.requester s.windows[w].writerMatch s.windows[w].writerMask = true
  whole : wholePixels b n ≠ []

/-- Whether a beat of `r` is one that a counting write of window `w` counts: it lies there, the requester passes the writer
filter, and it carries a whole pixel (R25). `k` is its place in the request. -/
def CountsInto (s : State) (r : Request) (k : Nat) (b : WriteBeat) (w : WindowNo) (y x0 n : Nat) : Prop :=
  s.locate (r.beatAddress k).toNat = .window w y x0 n
  ∧ filterPasses r.requester s.windows[w].writerMatch s.windows[w].writerMask = true ∧ wholePixels b n ≠ []

/-- Bank `t` is bank `start` after the whole pixels of a beat of window `w` have been counted, each in its zone (R44, R45,
R49). -/
def BankCounts (s : State) (w : WindowNo) (b : WriteBeat) (y x0 n : Nat) (start t : Bank) : Prop :=
  t.threshold = start.threshold
  ∧ ∀ z,
      let ys :=
        ((wholePixels b n).filter fun i => zoneAt s.grid s.windows[w].width s.windows[w].height (x0 + i) y == z).map
          fun i => luminance s.windows[w].format (pixelWord b.data i)
      (t.zones.get z).pixels = (start.zones.get z).pixels + ys.length
      ∧ (t.zones.get z).sum = (start.zones.get z).sum + ys.sum
      ∧ (t.zones.get z).peak = ys.foldl max (start.zones.get z).peak
      ∧ (t.zones.get z).bright = (start.zones.get z).bright + (ys.filter fun v => decide (start.threshold ≤ v)).length

/-- A request of one read beat that lies in window `w` at line `y`, of a requester that passes the scan filter (R5, R7). -/
structure ScanRead (s : State) (r : Request) (w : WindowNo) (y x0 n : Nat) : Prop where
  received : received s r
  body : r.body = .read 1
  place : s.locate r.address.toNat = .window w y x0 n
  scan : filterPasses r.requester s.windows[w].scanMatch s.windows[w].scanMask = true

/-- What a claim makes of a buffer: FILLING with the lowest-numbered free bank, or BLIND (R27). -/
def claimed (s : State) : BufferState :=
  match s.freeBank with
  | some b => .filling b
  | none => .blind

/-- The pixels counted before this write in the frame that it belongs to (R26). -/
def countedBefore (b : Buffer) : Nat := if b.state.counting then b.written else 0

/-- The lines of `t` are those of `s` after the duties of the zones for which `changed` holds have been given another value
(R80, first row of R116): the channel of each such zone that is mapped is dirty, its line owes a LATCH, and the lines are
otherwise as they were. -/
def DutiesMarked (s t : State) (changed : Nat → Prop) : Prop :=
  ∀ l : LineNo,
    t.lines[l] = { s.lines[l] with dirty := t.lines[l].dirty, latchOwed := t.lines[l].latchOwed }
    ∧ (∀ i, t.lines[l].dirty.getLsbD i = true ↔
        s.lines[l].dirty.getLsbD i = true
        ∨ ∃ z c, changed z ∧ s.zoneChannel z = some c ∧ c.line = l ∧ i = 16 * c.position.val + c.channel.val)
    ∧ (t.lines[l].latchOwed = true ↔
        s.lines[l].latchOwed = true ∨ ∃ z c, changed z ∧ s.zoneChannel z = some c ∧ c.line = l)

/-- The slot whose rows a scan start flushes, if there is one (step 1 of R84). -/
def flushed (s : State) : Option SlotNo := if s.scan.pointer = none then none else s.scan.result

/-- The entry of zone `z` after the flush of step 1 of R84. -/
def afterFlush (s : State) (z : Nat) : DriveEntry :=
  match flushed s with
  | some old =>
    if s.scan.committed * s.grid.columns ≤ z ∧ z < s.grid.rows * s.grid.columns then
      { duty := s.results[old].duty.get z, gain := s.results[old].gain.get z }
    else s.drive.get z
  | none => s.drive.get z

/-- Protection after a scan start: a trip of mode NEXT_SCAN is released and sampling resumes at 0 (R143). -/
def afterScanStart (p : Protection) : Protection :=
  match p.trip with
  | some q => if q.mode = .nextScan then { p with trip := none, filterCount := 0 } else p
  | none => p

/-- The event queue after a scan start's release, if it releases a trip: OC_RELEASED with NEXT_SCAN as detail (R143). -/
def afterRelease (s : State) (events : List Event) : List Event :=
  match s.protection.trip with
  | some q => if q.mode = .nextScan then eventsAfter events s.ms .ocReleased .none 1 else events
  | none => events

/-- A line after a stop order that takes it to OFF: timers stopped, a frame in flight abandoned, its channels marked dirty
again if it was a LEVEL, and a LATCH owed if it was a LEVEL or a LATCH; everything else stays (R116, R121). -/
def stoppedLine (x : Line) : Line :=
  { x with
    state := .off
    stateTimer := .stopped
    pollTimer := .stopped
    inFlight := none
    dirty :=
      match x.inFlight with
      | some f => if f.kind = .level then x.dirty ||| f.mask else x.dirty
      | none => x.dirty
    latchOwed :=
      match x.inFlight with
      | some f => x.latchOwed || decide (f.kind = .level ∨ f.kind = .latch)
      | none => x.latchOwed }

/-- A line after a start order that takes it to WAIT_SLOT for `slot` microseconds (R119). -/
def startedLine (slot : Nat) (x : Line) : Line :=
  { x with
    state := .waitSlot
    failures := 0
    dirty := 0
    latchOwed := false
    setupOwed := false
    pollDue := false
    hot := 0
    openSuspect := 0
    shortSuspect := 0
    ceilingLatched := true
    stateTimer := .running 0
    slotUs := slot }

/-- A RUNNING line with `n` drivers after a change of the duty ceiling: every channel dirty, a LATCH owed, ceiling latched no,
a frame in flight no longer one built after the latest change (R116, R145). -/
def markedLine (n : Nat) (x : Line) : Line :=
  { x with
    dirty := x.dirty ||| channelsBelow n
    latchOwed := true
    ceilingLatched := false
    inFlight := x.inFlight.map fun f => { f with afterCeiling := false } }

/-- A whole return that fails its test (R114): a SETUP, LEVEL or LATCH that differs from the frame, or a POLL whose header
differs or whose CRC-8 is wrong. -/
def badReturn (f : Frame) (bytes : List Byte) : Prop :=
  bytes.length = f.bytes.length
  ∧ if f.kind = .poll then bytes.take 3 ≠ f.bytes.take 3 ∨ bytes.getLast? ≠ some (crc8 bytes.dropLast)
    else bytes ≠ f.bytes

/-- The fault history of a line after one more entry at `now`, at most seven (R122). -/
def faultHistory (x : Line) (now : Word) : List Word := (x.history ++ [now]).drop (x.history.length - 6)

/-- Whether a fault history locks the line: seven entries within 60,000 ms (R122). -/
abbrev faultLocks (history : List Word) (now : Word) : Prop :=
  history.length = 7 ∧ (now - history.headD 0).toNat ≤ 60000

/-- A line in state `y` after the third failure in a row, of frame `f` (R122); a LEVEL that failed marks its channels again,
and a LEVEL or LATCH is owed a LATCH (assumption 13). The state timer runs on a FAULTED line only (assumption 26). -/
def failedLine (x : Line) (f : Frame) (history : List Word) (y : LineState) : Line :=
  { x with
    state := y
    failures := 0
    history := history
    inFlight := none
    pollTimer := .stopped
    stateTimer := if y = .faulted then .running 0 else .stopped
    dirty := if f.kind = .level then x.dirty ||| f.mask else x.dirty
    latchOwed := x.latchOwed || decide (f.kind = .level ∨ f.kind = .latch) }

/-- The end of a power-down (R135). -/
def PowerDownEnds (a t : State) : Prop :=
  t.protection = { a.protection with backlight := .off, sequencer := .idle, stepTimer := .stopped }
  ∧ t.events = eventsAfter a.events a.ms .backlightState .none 0 ∧ flagsAdded a t (overrun a)

/-- The test that R135 makes of a power-down in state `a`, and what it leaves in `t`: with no line RUNNING the power-down
ends; while dropping, or while a RUNNING line has not latched the ceiling, nothing happens; otherwise the drain is complete,
the highest RUNNING line is stopped, and the rest are dropped in turn, or the power-down ends if it was the last. -/
def PowerDownTested (a t : State) : Prop :=
  let running := fun l : LineNo => a.lines[l].state = .running
  ((∀ l, ¬running l) → t.lines = a.lines ∧ PowerDownEnds a t)
  ∧ ((∃ l, running l) →
      a.protection.sequencer = .dropping ∨ (∃ l, running l ∧ a.lines[l].ceilingLatched = false) →
      t.lines = a.lines ∧ t.protection = a.protection ∧ t.events = a.events ∧ t.accrued = a.accrued)
  ∧ ∀ h, a.protection.sequencer = .draining → running h → (∀ m, h < m → ¬running m) →
      (∀ l, running l → a.lines[l].ceilingLatched = true) →
      t.lines = a.lines.set h (stoppedLine a.lines[h])
      ∧ ((∃ m, m < h ∧ running m) →
          t.protection = { a.protection with sequencer := .dropping, stepTimer := .running 0 } ∧ t.events = a.events
          ∧ t.accrued = a.accrued)
      ∧ ((∀ m, m < h → ¬running m) → PowerDownEnds a t)

/-- The beginning of a power-up in state `a` (R133, R119): POWERING_UP with its event, the lowest-numbered used line gets its
start order at once and the others make the list; with no used line the backlight is ON at once. -/
def PowerUpBegun (a t : State) : Prop :=
  let used := (List.finRange 16).filter fun m => decide (0 < a.driverCount m ∧ a.lines[m].state ≠ .locked)
  (∀ l rest, used = l :: rest →
    t.protection
        = { a.protection with
            backlight := .poweringUp
            sequencer := .up rest l
            stepTimer := if rest = [] then .stopped else .running 0 }
    ∧ t.lines
        = (if a.lines[l].state = .off ∨ a.lines[l].state = .faulted then
            a.lines.set l (startedLine a.limits.slotUs a.lines[l])
          else a.lines)
    ∧ t.events = eventsAfter a.events a.ms .backlightState .none 1 ∧ flagsAdded a t (overrun a))
  ∧ (used = [] →
      t.protection = { a.protection with backlight := .on, sequencer := .idle, stepTimer := .stopped }
      ∧ t.lines = a.lines
      ∧ t.events
          = eventsAfter (eventsAfter a.events a.ms .backlightState .none 1) a.ms .backlightState .none 2
      ∧ flagsAdded a t (if 31 ≤ a.events.length then [.eventOverrun] else []))

/-- The zone that a report of a string fault confirms (R125): that of a mapped channel whose zone does not have the mark and
whose suspect mark of the kind was set by the POLL before. -/
def confirmedZone (s : State) (l : LineNo) (bytes : List Byte) (kind : FaultKind) (p k : Nat) : Option Nat :=
  match s.channelZone l p k with
  | some z =>
    let reported := match kind with
      | .openString => (pollReport bytes p).openMask.getLsbD k
      | .shortString => (pollReport bytes p).shortMask.getLsbD k
    if s.zoneMarked kind z = false ∧ reported = true ∧ (s.lines[l].suspects kind).getLsbD (16 * p + k) = true then some z
    else none
  | none => none

/-- The events of a successful POLL, in the model's order (assumption 10): the confirmations by position and channel, open
before short, then DRIVER_HOT by position (R125, R127). -/
def pollEvents (s : State) (l : LineNo) (bytes : List Byte) : List (EventKind × Subject × Nat) :=
  ((List.range (s.driverCount l)).flatMap fun p =>
    (List.range 16).flatMap fun k =>
      [FaultKind.openString, .shortString].filterMap fun kind =>
        (confirmedZone s l bytes kind p k).map fun z => (faultEvent kind, .zone z, l.val * 512 + p * 16 + k))
  ++ ((List.range (s.driverCount l)).filter fun p =>
        (pollReport bytes p).overTemperature && !s.lines[l].hot.getLsbD p).map fun p => (.driverHot, .line l, p)

/-- A line after one millisecond: its poll timer and the retry delay of a FAULTED line have counted it (R117, R123). -/
def lineAfterMs (x : Line) : Line :=
  { x with pollTimer := x.pollTimer.tick, stateTimer := if x.state = .faulted then x.stateTimer.tick else x.stateTimer }

/-- A line after one microsecond: the slot of a WAIT_SLOT line has counted it (R119). -/
def lineAfterUs (x : Line) : Line :=
  { x with stateTimer := if x.state = .waitSlot then x.stateTimer.tick else x.stateTimer }

/-! ### Samples (chapter 8) -/

/-- The state in which a sample with codes `c` is evaluated: the millisecond is counted, with the supervision timer and the
line timers, and the codes are kept (R136, assumption 6). -/
def sampled (s : State) (c : SampleSet) : State :=
  { s with
    ms := s.ms + 1
    scan := { s.scan with supervision := s.scan.supervision.tick }
    lines := s.lines.map lineAfterMs
    protection := { s.protection with codes := c } }

/-- The event of a change into a supply state (R140). -/
def supplyKind : Supply → EventKind
  | .ok => .supplyOk
  | .low => .supplyLow
  | .uv => .supplyUv

/-- What the evaluation of the supply state in `b` leaves in `t` of protection, events and flags: the state that R140 gives,
with the event of a change and the VLED code as its detail; a change into UV sets UV_SEEN, and the UV latch in LATCHED mode
(R141). -/
def SupplyEvaluated (b t : State) : Prop :=
  let v := b.protection.codes.vled.toNat
  let y := supplyNext b.limits v b.protection.supply
  let changed := y ≠ b.protection.supply
  t.protection
      = { b.protection with
          supply := y
          uvLatch := b.protection.uvLatch || decide (changed ∧ y = .uv ∧ b.limits.uvMode = .latched) }
  ∧ t.events = (if changed then eventsAfter b.events b.ms (supplyKind y) .none v else b.events)
  ∧ flagsAdded b t (if changed then (if y = .uv then .uvSeen :: overrun b else overrun b) else [])

/-- Whether the backlight is POWERING_UP, ON or POWERING_DOWN: a shutdown then stops the lines (R138). -/
abbrev lightsUp (b : Backlight) : Prop := b = .poweringUp ∨ b = .on ∨ b = .poweringDown

/-- What the entry into SHUTDOWN in state `a` leaves in `b` (R137, R138), before the supply state is evaluated: the entry in
the history, the new states, each change with its event, THERMAL_STATE first (assumption 10), and under a lit backlight the
sequencer IDLE with its step timer STOPPED (the model's choice, assumption 25) and every line stopped that is neither OFF nor
LOCKED; nothing besides. -/
def ShutdownEntered (a b : State) : Prop :=
  let history := (a.protection.shutdownHistory ++ [a.ms]).drop (a.protection.shutdownHistory.length - 6)
  let backlight :=
    if history.length = 7 ∧ (a.ms - history.headD 0).toNat ≤ 60000 then .latchedOff
    else if lightsUp a.protection.backlight then .thermalOff
    else a.protection.backlight
  let first := eventsAfter a.events a.ms .thermalState .none 3
  b.protection
      = { a.protection with
          thermal := .shutdown
          coolDown := 0
          shutdownHistory := history
          backlight := backlight
          sequencer := if lightsUp a.protection.backlight then .idle else a.protection.sequencer
          stepTimer := if lightsUp a.protection.backlight then .stopped else a.protection.stepTimer }
  ∧ b.lines
      = (if lightsUp a.protection.backlight then
          a.lines.map fun x => if x.state = .off ∨ x.state = .locked then x else stoppedLine x
        else a.lines)
  ∧ b.events
      = (if backlight = a.protection.backlight then first
        else eventsAfter first a.ms .backlightState .none (if backlight = .latchedOff then 5 else 4))
  ∧ flagsAdded a b
      (if backlight = a.protection.backlight then overrun a
      else if 31 ≤ a.events.length then [.eventOverrun] else [])
  ∧ Outside [.protection, .lines, .events, .accrued] a b

/-- What the end of SHUTDOWN in state `a` leaves in `b` (R139), before the supply state is evaluated: WARM or NORMAL with
THERMAL_STATE and the count at 0, and of a backlight in THERMAL_OFF a power-up, with the target ON and the three tables
VALID, or OFF with the target OFF; nothing besides. -/
def ShutdownLeft (a b : State) : Prop :=
  let warm := a.limits.warm ≤ boardTemp a.protection.codes + a.limits.thermalHysteresis
  let powers :=
    a.protection.target = true ∧ a.tables.zoneMapState = .valid ∧ a.tables.lineSetupState = .valid
    ∧ a.tables.limitsState = .valid
  ∃ u : State,
    u.protection = { a.protection with thermal := if warm then .warm else .normal, coolDown := 0 }
    ∧ u.events = eventsAfter a.events a.ms .thermalState .none (if warm then 1 else 0) ∧ flagsAdded a u (overrun a)
    ∧ Outside [.protection, .events, .accrued] a u
    ∧ (a.protection.backlight ≠ .thermalOff → b = u)
    ∧ (a.protection.backlight = .thermalOff → powers →
        PowerUpBegun u b ∧ Outside [.protection, .lines, .events, .accrued] u b)
    ∧ (a.protection.backlight = .thermalOff → ¬powers →
        b.protection = { u.protection with backlight := .off, target := false }
        ∧ b.events = eventsAfter u.events u.ms .backlightState .none 0 ∧ flagsAdded u b (overrun u)
        ∧ Outside [.protection, .events, .accrued] u b)

/-! ### The stages of an analysis (chapter 4) -/

/-- The quantities of the nine stages by zone: s, T, H, the boost counter B, H as stage 4 leaves it, F, Fc, the duty before
budget, L and E. -/
structure StageValues where
  statistic : Nat → Nat
  tone : Nat → Nat
  halo : Nat → Nat
  boost : Nat → Nat
  limited : Nat → Nat
  filtered : Nat → Nat
  level : Nat → Nat
  duty : Nat → Nat
  light : Nat → Nat
  falling : Nat → Nat

/-- Zones `i` and `j` lie at most two rows and two columns apart (section 4.5). -/
def near (g : Grid) (i j : Nat) : Prop :=
  apart (j / g.columns) (i / g.columns) ≤ 2 ∧ apart (j % g.columns) (i % g.columns) ≤ 2

/-- Entry [|dy|][|dx|] of a quarter table, dy and dx the distances between zones `i` and `j` (R61, R66). -/
def weight (g : Grid) (quarter : List Nat) (i j : Nat) : Nat :=
  quarter.getD (3 * apart (j / g.columns) (i / g.columns) + apart (j % g.columns) (i % g.columns)) 0

/-- R58: zone `z` is dark in a snapshot. An entry that names no channel counts as UNMAPPED. -/
def darkIn (sn : Snapshot) (z : Nat) : Prop :=
  sn.mapState ≠ .valid ∨ entryChannel (sn.zoneMap.get z) = none ∨ sn.openMarks.getLsbD z = true
  ∨ sn.shortMarks.getLsbD z = true
  ∨ ∃ c, entryChannel (sn.zoneMap.get z) = some c ∧ sn.running.getLsbD c.line.val = false

/-- The global mean of a bank over the grid (R51). -/
def meanOf (g : Grid) (bank : Bank) : Nat :=
  ((List.range g.zones).map fun z => (bank.zones.get z).sum).sum
    / ((List.range g.zones).map fun z => (bank.zones.get z).pixels).sum

/-- The sum of the duties before budget (R65). -/
def StageValues.total (v : StageValues) (g : Grid) : Nat := ((List.range g.zones).map v.duty).sum

/-- The boost counter of a zone before the analysis (R62). -/
def boostBefore (sn : Snapshot) (z : Nat) : Nat := if sn.history.valid then (sn.history.zones.get z).boost else 0

/-- The rules of stages 1 to 8 for every zone of the grid, between a bank and a snapshot and the values of the stages. -/
structure StagesHold (g : Grid) (bank : Bank) (sn : Snapshot) (v : StageValues) : Prop where
  /-- R59. -/
  statistic : ∀ z, z < g.zones →
    let x := bank.zones.get z
    let mean := x.sum / x.pixels
    v.statistic z
      = mean + (x.peak - mean) * (if sn.params.minBrightArea ≤ x.bright then sn.params.mixK else sn.params.mixKSmall) / 16
  /-- R60; the curve itself is stated in `Obligations.ToneCurveRoundsDown`. -/
  tone : ∀ z, z < g.zones → v.tone z = toneCurve sn.params (v.statistic z)
  /-- R61: the largest of the weighted levels around the zone. -/
  halo : ∀ z, z < g.zones →
    (∀ j, j < g.zones → near g z j → v.tone j * weight g sn.params.halo z j / 256 ≤ v.halo z)
    ∧ ∃ j, j < g.zones ∧ near g z j ∧ v.halo z = v.tone j * weight g sn.params.halo z j / 256
  /-- R62. -/
  boost : ∀ z, z < g.zones →
    v.boost z
        = (if sn.params.sustainLevel < v.halo z then min 255 (boostBefore sn z + 1)
          else boostBefore sn z - sn.params.coolStep)
    ∧ v.limited z
        = (if sn.params.sustainLevel < v.halo z ∧ sn.params.boostFrames < v.boost z then sn.params.sustainLevel
          else v.halo z)
  /-- R63. -/
  filtered : ∀ z, z < g.zones →
    let p := (sn.history.zones.get z).level
    let h := v.limited z
    v.filtered z
      = if sn.history.valid = false ∨ sn.params.cutThreshold < apart (meanOf g bank) sn.history.mean then h
        else if p < h then p + ((h - p) * sn.params.upRate + 15) / 16
        else p - ((p - h) * sn.params.downRate + 15) / 16
  /-- R64. -/
  calibrated : ∀ z, z < g.zones →
    let c := min 4095 (max 256 (sn.calibration.get z).toNat)
    (darkIn sn z → v.level z = 0 ∧ v.duty z = 0)
    ∧ (¬darkIn sn z → v.level z = min (v.filtered z) (4193280 / c) ∧ v.duty z = v.level z * c / 1024)
  /-- R65. -/
  light : ∀ z, z < g.zones →
    v.light z = if sn.cap < v.total g then v.level z * (sn.cap * 65536 / v.total g) / 65536 else v.level z
  /-- R66. -/
  falling : ∀ z, z < g.zones →
    v.falling z
      = ((List.range g.zones).map fun j =>
          if apart (j / g.columns) (z / g.columns) ≤ 2 ∧ apart (j % g.columns) (z % g.columns) ≤ 2 then
            v.light j * weight g sn.params.spread z j
          else 0).sum / 4096

/-! ### Record images, table contents and snapshots (R55 to R57, R73, R161, section 10.7) -/

/-- Byte `j` of a record image. -/
def imageByte {n : Nat} (image : BitVec n) (j : Nat) : Byte := image.extractLsb' (8 * j) 8

/-- Bytes `j` and `j + 1` of a record image as a number, the low byte first (R170). -/
def imageWord {n : Nat} (image : BitVec n) (j : Nat) : Nat := (imageByte image j).toNat + 256 * (imageByte image (j + 1)).toNat

/-- The 16-bit field at `offset` of a set record, at the nearest of the bounds `lo` and `hi` (R56). -/
def boundedField (image : BitVec 1024) (offset lo hi : Nat) : Nat := min hi (max lo (imageWord image offset))

/-- `p` holds the fields of a set record, each at its offset of section 10.4 and within its range of R56, with K[0][0] as
256. -/
structure RecordTaken (image : BitVec 1024) (p : ParamSet) : Prop where
  mixK : p.mixK = boundedField image 0x00 0 16
  mixKSmall : p.mixKSmall = boundedField image 0x02 0 16
  brightThreshold : p.brightThreshold = boundedField image 0x04 0 1023
  minBrightArea : p.minBrightArea = boundedField image 0x06 0 65535
  curve : p.curve.length = 33 ∧ ∀ i, i < 33 → p.curve[i]? = some (boundedField image (0x08 + 2 * i) 0 4095)
  minLevel : p.minLevel = boundedField image 0x4A 0 4095
  halo : p.halo.length = 9 ∧ p.halo[0]? = some 256
    ∧ ∀ i j, i < 3 → j < 3 → i + j ≠ 0 → p.halo[3 * i + j]? = some (boundedField image (0x4C + 2 * (3 * i + j)) 0 256)
  sustainLevel : p.sustainLevel = boundedField image 0x5E 0 4095
  boostFrames : p.boostFrames = boundedField image 0x60 0 255
  coolStep : p.coolStep = boundedField image 0x62 1 255
  upRate : p.upRate = boundedField image 0x64 1 16
  downRate : p.downRate = boundedField image 0x66 1 16
  cutThreshold : p.cutThreshold = boundedField image 0x68 0 1023
  spread : p.spread.length = 9
    ∧ ∀ i j, i < 3 → j < 3 → p.spread[3 * i + j]? = some (boundedField image (0x6A + 2 * (3 * i + j)) 0 4095)
  eRef : p.eRef = boundedField image 0x7C 1 65535
  gainCeiling : p.gainCeiling = boundedField image 0x7E 256 4096

/-- `p` is the built-in default set of R75: the curve is 128 per entry up to 4095, and S[0][0] is 4096 taken as 4095. -/
def DefaultTaken (p : ParamSet) : Prop :=
  p.curve.length = 33 ∧ (∀ i, i < 33 → p.curve[i]? = some (min 4095 (128 * i)))
  ∧ p
    = { mixK := 8, mixKSmall := 4, brightThreshold := 768, minBrightArea := 16, curve := p.curve, minLevel := 0,
        halo := [256, 128, 64, 128, 96, 32, 64, 32, 16], sustainLevel := 4095, boostFrames := 255, coolStep := 1,
        upRate := 8, downRate := 4, cutThreshold := 256, spread := [4095, 0, 0, 0, 0, 0, 0, 0, 0], eRef := 4095,
        gainCeiling := 1024 }

/-- What the snapshot of an analysis that starts in state `s` holds (R55 to R57), with the History Table read at the start
(R70). -/
structure SnapshotTaken (s : State) (sn : Snapshot) : Prop where
  /-- R55, R56: set A, if it is the selected set and VALID. -/
  setA : s.engine.selected = .a → s.tables.setAState = .valid → sn.setUsed = .setA ∧ RecordTaken s.tables.setA sn.params
  /-- R55, R56: set B, if it is the selected set and VALID. -/
  setB : s.engine.selected = .b → s.tables.setBState = .valid → sn.setUsed = .setB ∧ RecordTaken s.tables.setB sn.params
  /-- R55, R75: the default set while the selected set is not VALID. -/
  builtin : (s.engine.selected = .a ∧ s.tables.setAState ≠ .valid) ∨ (s.engine.selected = .b ∧ s.tables.setBState ≠ .valid) →
    sn.setUsed = .builtin ∧ DefaultTaken sn.params
  cap : sn.cap = s.budgetCap
  calibration : ∀ z,
    sn.calibration.get z = if s.tables.calibrationState = .valid then s.tables.calibration.get z else 1024#16
  map : sn.mapState = s.tables.zoneMapState ∧ sn.zoneMap = s.tables.zoneMap
  marks : sn.openMarks = s.faults.openMarks ∧ sn.shortMarks = s.faults.shortMarks
  running : ∀ l : LineNo, sn.running.getLsbD l.val = decide (s.lines[l].state = .running)
  history : sn.history = s.history

/-- The six tables in the order of their codes, from 1 (section 10.3). -/
def tableOrder : List TableId := [.zoneMap, .calibration, .lineSetup, .setA, .setB, .limits]

/-- The event kinds in the order of their codes, from 01h (section 10.7). -/
def kindOrder : List EventKind :=
  [.lineRunning, .lineFaulted, .lineLocked, .zoneOpen, .zoneShort, .driverHot, .ocTrip, .ocReleased, .thermalState,
   .supplyLow, .supplyUv, .supplyOk, .fallbackEnter, .fallbackExit, .backlightState, .tableInvalid]

/-- The 16 bytes `image` are the record of event `e` in the layout of section 10.7, low bytes first. -/
def RecordLaid (e : Event) (image : BitVec 128) : Prop :=
  (∃ k, kindOrder[k]? = some e.kind ∧ (imageByte image 0).toNat = k + 1)
  ∧ (match e.subject with
    | .none => imageByte image 1 = 0#8 ∧ imageWord image 2 = 0
    | .zone z => imageByte image 1 = 1#8 ∧ imageWord image 2 = z % 65536
    | .line l => imageByte image 1 = 2#8 ∧ imageWord image 2 = l.val
    | .window w => imageByte image 1 = 3#8 ∧ imageWord image 2 = w.val
    | .table t => imageByte image 1 = 4#8 ∧ ∃ k, tableOrder[k]? = some t ∧ imageWord image 2 = k + 1)
  ∧ imageWord image 4 + 65536 * imageWord image 6 = e.time.toNat
  ∧ imageWord image 8 = e.detail.toNat
  ∧ ∀ j, 10 ≤ j → j < 16 → imageByte image j = 0#8

/-- The table contents of `t` are those of `s` after beat `b` of the fetch of load `l` (R161). An entry is written when its
last byte has arrived; a set's bytes are written as they arrive (assumption 12). `kept` is the beat before. -/
def BeatStored (s t : State) (l : Load) (b : Nat) (kept data : Beat) : Prop :=
  let bytes := min 32 (l.count * entrySize l.table - 32 * b)
  (∀ z, t.tables.zoneMap.get z
    = if l.table = .zoneMap ∧ l.offset + 8 * b ≤ z ∧ z < l.offset + 8 * b + bytes / 4 then
        data.extractLsb' (32 * (z - (l.offset + 8 * b))) 32
      else s.tables.zoneMap.get z)
  ∧ (∀ z, t.tables.calibration.get z
      = if l.table = .calibration ∧ l.offset + 16 * b ≤ z ∧ z < l.offset + 16 * b + bytes / 2 then
          data.extractLsb' (16 * (z - (l.offset + 16 * b))) 16
        else s.tables.calibration.get z)
  ∧ (∀ m : LineNo, t.tables.lineSetup[m]
      = if l.table = .lineSetup ∧ l.offset + 2 * b ≤ m.val ∧ m.val < l.offset + 2 * b + bytes / 16 then
          data.extractLsb' (128 * (m.val - (l.offset + 2 * b))) 128
        else s.tables.lineSetup[m])
  ∧ (∀ j, j < 128 →
      (imageByte t.tables.setA j
        = if l.table = .setA ∧ 32 * b ≤ j ∧ j < 32 * b + 32 then beatByte data (j - 32 * b)
          else imageByte s.tables.setA j)
      ∧ imageByte t.tables.setB j
          = if l.table = .setB ∧ 32 * b ≤ j ∧ j < 32 * b + 32 then beatByte data (j - 32 * b)
            else imageByte s.tables.setB j)
  ∧ t.tables.limits = if l.table = .limits ∧ b = 1 then data ++ kept else s.tables.limits

/-! ### Answers of the ring (R152 to R154) -/

/-- A command that has begun with the snapshot `snap` (R152). -/
def begun (s : State) (snap : BitVec 1024) : Ring :=
  { s.ring with
    pendingSlots := s.ring.pendingSlots &&& ~~~(BitVec.twoPow 16 s.ring.index.val)
    executing := some { snapshot := snap, offers := [], load := none } }

/-- The part `t` after the command at the index has begun and fixed its answer `a` with data writes `data`: nothing besides
the ring and the count of free values is touched (R152 to R154). -/
def answered (s : State) (snap : BitVec 1024) (data : List Injected) (a : Answer) : State :=
  { s with
    ring :=
      { begun s snap with
        executing :=
          some
            { snapshot := snap
              offers :=
                data
                  ++ [statusWrite (s.controlBase + 128 * s.ring.index.val + 0x60) (statusWord a (sequenceOf snap))
                      s.freeCount]
              load := none } }
    freeCount := s.freeCount + 1 }

/-- R152: execution of the slot at the index can begin, and `snap` is what it finds there. -/
def canBegin (s : State) (snap : BitVec 1024) : Prop :=
  s.resetAsserted = false ∧ s.ring.executing = none ∧ s.ring.pendingSlots.getLsbD s.ring.index.val = true
  ∧ s.link.downstream = .up ∧ s.ring.shadows[s.ring.index] = snap

/-- R153: the snapshot holds command `code` with a parameter length the command accepts. -/
def headed (snap : BitVec 1024) (code block : Nat) : Prop :=
  commandCode snap = code ∧ block ≤ paramLength snap ∧ paramLength snap ≤ 112

end Sys2Proof.Safety
end

