-- ==== Sys2Proof/Certificates/Slice0/Obligations.lean ====
section
/-! DEFINITION. The statements for the provers, chapter by chapter. Where a statement gives a command's next state as a
record update of the state before it, the update is the command's result and its frame at once. -/

section

open Sys2Proof Sys2Proof.Machine Sys2Proof.Safety

/-! ### The step and RESET_N -/

/-- One step takes the command at the front of the queue and is `exec` of it on the rest; an empty queue idles
(assumption 1, the model's choice). -/
def Obligations.StepRunsFrontCommand : Prop :=
  ∀ (s : State) (c : Instr) (rest : List Instr),
    (s.pending = c :: rest → step s = exec c { s with pending := rest }) ∧ (s.pending = [] → step s = .next s)

/-- Every command completes in every state, and leaves the queue of waiting commands alone: the one stop of the model,
an analysis that finds no free result slot, cannot come about (the law of R77; the queue is the model's own, assumption
1). -/
def Obligations.EveryCommandCompletes : Prop :=
  ∀ (c : Instr) (s : State), ∃ t, exec c s = .next t ∧ t.pending = s.pending

/-- RESET_ASSERTED: the values after RESET_N that R19, R20, R24, R41, R46, R53, R70, R79, R81, R106, R126, R130, R136 to
R142, R150 to R152, R158, R165 and R167 give, with every LEN low, BL_OFF_N low and ALERT_N released (R106, R144, R169). The
model's own fields `pending` and `freeCount` stay (assumption 2). The straps and the millisecond counter hold 0 until the
release (assumption 2), nothing is recorded of the ports (assumption 4), and a line's slot length is 0 and a result record
that no analysis has written holds duty 0 and gain 256 (assumption 5): these five are the model's choice. -/
def Obligations.ResetAssertedValues : Prop :=
  ∀ s : State, ∃ t, exec .resetAsserted s = .next t ∧ t.resetAsserted = true ∧ t.pending = s.pending
    ∧ t.freeCount = s.freeCount ∧ t.cfg = 0 ∧ t.ms = 0
    ∧ t.link
        = { upstream := .down, downstream := .down, credits := 0, forward := [], injected := [], waitCount := 0,
            tracking := [], sentDown := [], sentUp := [] }
    ∧ (∀ w : WindowNo,
        t.windows[w]
            = { enable := false, base := 0, pitch := 0, width := 0, height := 0, format := .rgb10, writerMatch := 0,
                writerMask := 0, scanMatch := 0, scanMask := 0, compensation := false, hueClip := false }
        ∧ t.buffers[w] = { state := .disabled, written := 0 })
    ∧ t.queue = [] ∧ t.engine = { tag := 0, analysis := none, selected := .a }
    ∧ t.history.valid = false ∧ t.history.mean = 0 ∧ (∀ z, t.history.zones.get z = { level := 0, boost := 0 })
    ∧ t.grid = { columns := 1, rows := 1, leadLines := 0 }
    ∧ (∀ b : BankNo, t.banks[b].threshold = 0 ∧ t.bankHeld b = false
        ∧ ∀ z, t.banks[b].zones.get z = { peak := 0, sum := 0, bright := 0, pixels := 0 })
    ∧ (∀ k : SlotNo, t.slotTaken k = false ∧ ∀ z, t.results[k].duty.get z = 0 ∧ t.results[k].gain.get z = 256)
    ∧ (∀ z, t.drive.get z = { duty := 0, gain := 256 })
    ∧ t.scan
        = { pointer := none, result := none, progress := 0, passed := 0, committed := 0, fallback := .normal,
            supervision := .stopped }
    ∧ (∀ l : LineNo, t.len l = false
        ∧ t.lines[l]
            = { state := .off, failures := 0, history := [], dirty := 0, latchOwed := false, setupOwed := false,
                pollDue := false, pollTimer := .stopped, ceilingLatched := true, inFlight := none,
                stateTimer := .stopped, slotUs := 0, hot := 0, openSuspect := 0, shortSuspect := 0 })
    ∧ t.faults = { openMarks := 0, shortMarks := 0 }
    ∧ t.protection
        = { backlight := .off, target := false, sequencer := .idle, stepTimer := .stopped,
            codes := { vled := 0, tb0 := 0, tb1 := 0, tdie := 0 }, thermal := .normal, coolDown := 0,
            shutdownHistory := [], supply := .ok, uvLatch := false, filterCount := 0, trip := none, tripHistory := [],
            sinceLatch := none }
    ∧ t.ceiling = 4095 ∧ t.budgetCap = 21228480
    ∧ (∀ k : CommandNo, t.ring.shadows[k] = 0 ∧ t.ring.pendingSlots.getLsbD k.val = false)
    ∧ t.ring.index = 0 ∧ t.ring.executing = none ∧ (∀ id : TableId, t.tables.stateOf id = .invalid)
    ∧ (∀ z, t.tables.zoneMap.get z = 0 ∧ t.tables.calibration.get z = 1024)
    ∧ (∀ l : LineNo, t.tables.lineSetup[l] = 0) ∧ t.tables.setA = 0 ∧ t.tables.setB = 0 ∧ t.tables.limits = 0
    ∧ t.events = [] ∧ (∀ f, t.flag f = false) ∧ t.blanked = true ∧ t.alerted = false

/-- RESET_RELEASED samples the straps, from which the base of the control region follows, and the millisecond counter
starts (R149, "Time"). While RESET_N is asserted nothing but its release or a further assertion changes anything (R19,
R106, assumption 2), and from the release on the straps, and so the base, are fixed until the next assertion. -/
def Obligations.ResetIsLeftByItsRelease : Prop :=
  (∀ (s : State) (cfg : BitVec 3),
    (s.resetAsserted = true →
      ∃ t, exec (.resetReleased cfg) s = .next t ∧ t.controlBase = cfg.toNat * 0x04000000 + 0x03FFF000
        ∧ t = { s with resetAsserted := false, cfg := cfg, ms := 0 })
    ∧ (live s → exec (.resetReleased cfg) s = .next s))
  ∧ (∀ (c : Instr) (s : State), s.resetAsserted = true → c ≠ .resetAsserted → (∀ cfg, c ≠ .resetReleased cfg) →
      exec c s = .next s)
  ∧ ∀ (c : Instr) (s t : State), live s → c ≠ .resetAsserted → exec c s = .next t →
      live t ∧ t.cfg = s.cfg ∧ t.controlBase = s.controlBase

/-- The state after RESET_N satisfies every invariant of `Safety`: of the Link Path (R2, R8 to R11), of the lines (R106), of
duties and gains (R67, R72, R79), of buffers, banks and slots (R24, R27, R36, R53, R76), of the scan (R81), of the ring and
the tables (R150 to R156, R158, R160) and of the event queue (R167). That the unwritten result records lie in range is the model's
choice (assumption 5). -/
def Obligations.InvariantsHoldAtReset : Prop :=
  LinkInv State.reset.link ∧ PowerInv State.reset ∧ LevelInv State.reset ∧ BufferInv State.reset ∧ ScanInv State.reset
    ∧ RingInv State.reset ∧ State.reset.events.length ≤ 32

/-! ### Link states, credits and the two queues (chapter 1) -/

/-- UPSTREAM_LINK_DOWN, UPSTREAM_LINK_UP and DOWNSTREAM_LINK_UP change the link state and the credits, and nothing else.
DOWNSTREAM_LINK_DOWN while no table is being fetched empties injected queue, wait count and tracking list, keeps the
forward queue and the credits, and the writes of the executing command that were offered and not sent wait to be offered
again, first; a load that has not begun is kept (R2, R15 to R18, R155, R164). -/
def Obligations.LinkStateChanges : Prop :=
  ∀ s : State, live s →
    exec .upstreamLinkDown s = .next { s with link := { s.link with upstream := .down, credits := 0 } }
    ∧ exec .upstreamLinkUp s
        = .next { s with link := { s.link with upstream := .up, credits := 16 - s.link.forward.length } }
    ∧ exec .downstreamLinkUp s = .next { s with link := { s.link with downstream := .up } }
    ∧ ((∀ l b crc kept, s.load = some l → l.phase ≠ .fetching b crc kept) →
        exec .downstreamLinkDown s
          = .next
              { s with
                link := { s.link with downstream := .down, injected := [], waitCount := 0, tracking := [] }
                ring :=
                  { s.ring with
                    executing :=
                      s.ring.executing.map fun c =>
                        { c with
                          offers :=
                            if c.load = none then s.link.injected.filter Injected.isWrite ++ c.offers else c.offers } } })

/-- DOWNSTREAM_LINK_DOWN while a table is LOADING: the table becomes INVALID, TABLE_INVALID is added with LINK_DOWN as
detail, and the command is answered LINK_DOWN with the number of entries written (R17, R164). -/
def Obligations.DownstreamDownFailsTheFetch : Prop :=
  ∀ (s : State) (c : Command) (l : Load) (b : Nat) (crc : BitVec 16) (kept : Beat), live s →
    s.ring.executing = some c → c.load = some l → l.phase = .fetching b crc kept →
    ∃ t, exec .downstreamLinkDown s = .next t
      ∧ t.link = { s.link with downstream := .down, injected := [], waitCount := 0, tracking := [] }
      ∧ t.tables.stateOf l.table = .invalid
      ∧ (∀ id, id ≠ l.table → t.tables.stateOf id = s.tables.stateOf id)
      ∧ t.events = eventsAfter s.events s.ms .tableInvalid (.table l.table) 9
      ∧ flagsAdded s t (overrun s)
      ∧ t.ring
          = { s.ring with
              executing :=
                some
                  { c with
                    offers :=
                      [statusWrite (s.controlBase + 128 * s.ring.index.val + 0x60)
                        (statusWord (.linkDown, min l.count (32 * b / entrySize l.table)) (sequenceOf c.snapshot))
                        s.freeCount]
                    load := none } }
      ∧ Outside [.link, .tables, .lines, .events, .accrued, .ring, .freeCount] s t

/-- Link protocol errors. A request without a credit, with a beat count outside 1 to 8 or with an address that is no
multiple of 32 takes the upstream link DOWN and does nothing else; while that link is DOWN nothing is received (R1,
R15). A return beat that finds the tracking list empty does what DOWNSTREAM_LINK_DOWN does; while that link is DOWN no
return is received (R12, R17). -/
def Obligations.ProtocolErrorsTakeTheLinkDown : Prop :=
  ∀ s : State, live s →
    (∀ r : Request,
      (s.link.upstream = .down → exec (.requestReceived r) s = .next s)
      ∧ (s.link.upstream = .up → ¬received s r →
          exec (.requestReceived r) s = .next { s with link := { s.link with upstream := .down, credits := 0 } }))
    ∧ ∀ data : Beat,
        (s.link.downstream = .down → exec (.returnBeatReceived data) s = .next s)
        ∧ (s.link.downstream = .up → s.link.tracking = [] →
            exec (.returnBeatReceived data) s = exec .downstreamLinkDown s)

/-- REQUEST_RECEIVED accepted: a credit is spent, the request joins the tail of the forward queue as received, a READ
with one classification per beat, and nothing is touched besides what a READ or a WRITE may touch by R6 and R7. The last
beat of a READ of several acts on what the earlier beats left, as a READ of its own (R7). So does the last beat of a WRITE
of several (R6), unless an earlier beat of the request has counted into its window (R25): its whole pixels are then
counted without a further state change in a buffer that is still FILLING or BLIND, completing the frame where they reach
the area (R34, R35), and are ignored once the frame is complete; a partial pixel sets its flag in each case (R50). -/
def Obligations.ReceivedRequestJoinsTheForwardQueue : Prop :=
  (∀ (s : State) (r : Request), received s r →
    ∃ t, exec (.requestReceived r) s = .next t ∧ t.link = joined s r
      ∧ (r.isRead = true → Outside [.link, .buffers, .drive, .scan, .lines, .protection, .events, .accrued] s t)
      ∧ (r.isRead = false → Outside [.link, .buffers, .queue, .banks, .engine, .ring, .accrued] s t))
  ∧ (∀ (s t' : State) (r : Request) (n : Nat), received s r → r.body = .read (n + 1) → 1 ≤ n →
      exec (.requestReceived { r with body := .read n }) s = .next t' →
      ∃ u, exec (.requestReceived { r with address := r.beatAddress n, body := .read 1 }) { t' with link := s.link } = .next u
        ∧ exec (.requestReceived r) s = .next { u with link := joined s r })
  ∧ (∀ (s t' : State) (r : Request) (bs : List WriteBeat) (b : WriteBeat), received s r → r.body = .write (bs ++ [b]) →
      bs ≠ [] → exec (.requestReceived { r with body := .write bs }) s = .next t' →
      let counted := fun w : WindowNo => ∃ k b' y x0 n, bs[k]? = some b' ∧ CountsInto s r k b' w y x0 n
      ((∀ w y x0 n, CountsInto s r bs.length b w y x0 n → ¬counted w) →
        ∃ u,
          exec (.requestReceived { r with address := r.beatAddress bs.length, body := .write [b] }) { t' with link := s.link }
              = .next u
          ∧ exec (.requestReceived r) s = .next { u with link := joined s r })
      ∧ ∀ w y x0 n, CountsInto s r bs.length b w y x0 n → counted w →
          let m := t'.buffers[w].written + (wholePixels b n).length
          let full := s.windows[w].area ≤ m
          ∃ t, exec (.requestReceived r) s = .next t ∧ t.link = joined s r
            ∧ (match t'.buffers[w].state with
                | .filling k =>
                  t.buffers = t'.buffers.set w { state := if full then .queued k else .filling k, written := m }
                  ∧ t.queue = (if full then t'.queue ++ [w] else t'.queue)
                  ∧ BankCounts s w b y x0 n t'.banks[k] t.banks[k] ∧ (∀ j, j ≠ k → t.banks[j] = t'.banks[j])
                  ∧ flagsAdded t' t (partialFlags b n) ∧ Outside [.link, .buffers, .queue, .banks, .accrued] t' t
                | .blind =>
                  t.buffers
                      = t'.buffers.set w (if full then { state := .idle, written := 0 } else { state := .blind, written := m })
                  ∧ flagsAdded t' t (partialFlags b n ++ if full then [.blind] else [])
                  ∧ Outside [.link, .buffers, .accrued] t' t
                | _ => flagsAdded t' t (partialFlags b n) ∧ Outside [.link, .accrued] t' t))

/-- The law of R8: over any command but RESET_ASSERTED, the requests of the picture processor that have left or wait to
leave the downstream port stay as they are, in their order, and a received one joins them at the end. -/
def Obligations.RequestsAreForwardedInOrder : Prop :=
  ∀ (c : Instr) (s t : State), c ≠ .resetAsserted → exec c s = .next t →
    (∀ r, c = .requestReceived r → received s r → upstreamRequests t.link = upstreamRequests s.link ++ [r])
    ∧ ((∀ r, c = .requestReceived r → ¬received s r) → upstreamRequests t.link = upstreamRequests s.link)
    ∧ ∃ more, t.link.sentDown = s.link.sentDown ++ more

/-- DOWNSTREAM_SEND (R10): the candidate is chosen by the table of R10; a READ takes a tracking entry with its origin,
and waits while 32 entries stand; a forwarded request returns its credit while the upstream link is UP and counts
against a waiting injected head; a status word write ends its command (R2, R10, R11, R154). INJECTED_REQUEST_OFFER (R9,
R154, R155): the next request of the executing command joins the tail of the injected queue when the queue has room;
with four requests there, with none left to offer or while the downstream link is DOWN, nothing happens. -/
def Obligations.QueuesAreServed : Prop :=
  (∀ s : State, live s →
     (s.link.downstream = .down → exec .downstreamSend s = .next s)
     ∧ (s.link.forward = [] → s.link.injected = [] → exec .downstreamSend s = .next s)
     ∧ (∀ f rest, s.link.downstream = .up → s.link.forward = f :: rest → (s.link.injected = [] ∨ s.link.waitCount < 32) →
         exec .downstreamSend s
           = .next
               (if f.request.isRead = true ∧ 32 ≤ s.link.tracking.length then s
               else
                 { s with
                   link :=
                     { s.link with
                       forward := rest
                       credits := if s.link.upstream = .up then s.link.credits + 1 else s.link.credits
                       waitCount := if s.link.injected = [] then s.link.waitCount else s.link.waitCount + 1
                       tracking :=
                         if f.request.isRead then
                           s.link.tracking
                             ++ [{ origin := .forwarded f.classes, beatCount := f.request.beatCount, received := 0 }]
                         else s.link.tracking
                       sentDown := s.link.sentDown ++ [{ request := f.request, injected := false }] } }))
     ∧ (∀ q rest, s.link.downstream = .up → s.link.injected = q :: rest → (s.link.forward = [] ∨ 32 ≤ s.link.waitCount) →
         exec .downstreamSend s
           = .next
               (if q.request.isRead = true ∧ 32 ≤ s.link.tracking.length then s
               else
                 { s with
                   link :=
                     { s.link with
                       injected := rest
                       waitCount := 0
                       tracking :=
                         if q.request.isRead then
                           s.link.tracking
                             ++ [{ origin := .injected q.purpose, beatCount := q.request.beatCount, received := 0 }]
                         else s.link.tracking
                       sentDown := s.link.sentDown ++ [{ request := q.request, injected := true }] }
                   ring :=
                     match q.purpose with
                     | .status _ => { s.ring with index := s.ring.index + 1, executing := none }
                     | .data => s.ring
                     | .fetch _ => s.ring })))
  ∧ (∀ (s : State) (c : Command), live s → s.ring.executing = some c →
       (∀ q rest, s.link.downstream = .up → c.offers = q :: rest → s.link.injected.length < 4 →
           exec .injectedRequestOffer s
             = .next
                 { s with
                   link := { s.link with injected := s.link.injected ++ [q] }
                   ring := { s.ring with executing := some { c with offers := rest } } })
       ∧ (s.link.downstream = .down ∨ c.offers = [] ∨ 4 ≤ s.link.injected.length →
           exec .injectedRequestOffer s = .next s))

/-- A write beat in the slot area changes the enabled bytes of the quarter of the slot it covers and nothing else of the
shadows; it makes the slot pending when it writes the whole commit word. A beat elsewhere in the region changes nothing
(R149 to R151). A one-beat WRITE into the region is captured so at its reception (R6). -/
def Obligations.SlotShadowsCaptureWrites : Prop :=
  ∀ (s : State) (b : WriteBeat) (offset : Nat), offset % 32 = 0 →
    (offset < 2048 →
      (∀ (k : CommandNo) (j : Nat), j < 128 →
        (s.captureBeat offset b).ring.shadows[k].extractLsb' (8 * j) 8
          = if offset ≤ 128 * k.val + j ∧ 128 * k.val + j < offset + 32
                ∧ b.enables.getLsbD (128 * k.val + j - offset) = true then
              b.data.extractLsb' (8 * (128 * k.val + j - offset)) 8
            else s.ring.shadows[k].extractLsb' (8 * j) 8)
      ∧ (∀ k : CommandNo,
          (s.captureBeat offset b).ring.pendingSlots.getLsbD k.val
            = (s.ring.pendingSlots.getLsbD k.val
                || decide (offset = 128 * k.val + 96 ∧ b.enables.extractLsb' 28 4 = 15#4)))
      ∧ (s.captureBeat offset b).ring.index = s.ring.index ∧ (s.captureBeat offset b).ring.executing = s.ring.executing
      ∧ Outside [.ring] s (s.captureBeat offset b))
    ∧ (2048 ≤ offset → s.captureBeat offset b = s)
    ∧ (∀ r : Request, received s r → r.body = .write [b] → offset < 4096 → r.address.toNat = s.controlBase + offset →
        exec (.requestReceived r) s = .next (State.captureBeat offset b { s with link := joined s r }))

/-! ### Windows, buffers and statistics (chapters 2 and 3) -/

/-- Where a beat lies (R3), which zone a pixel of the active area lies in (R44), and what luminance a pixel word has
(R45): the control region first, then the enabled windows, with line, first pixel and active pixels; the one column and
row whose extents hold the pixel; the largest colour field for RGB10, and four times the largest plus its sixty-fourth
for RGB8. -/
def Obligations.PixelsAreLocatedAndMeasured : Prop :=
  (∀ (s : State) (a : Nat),
    (∀ o, s.locate a = .control o ↔ s.controlBase ≤ a ∧ a < s.controlBase + 4096 ∧ o = a - s.controlBase)
    ∧ (∀ w y x0 n, s.locate a = .window w y x0 n →
        ¬(s.controlBase ≤ a ∧ a < s.controlBase + 4096) ∧ s.windows[w].enable = true ∧ s.windows[w].base.toNat ≤ a
        ∧ a < s.windows[w].base.toNat + s.windows[w].pitch * s.windows[w].height
        ∧ y = (a - s.windows[w].base.toNat) / s.windows[w].pitch
        ∧ x0 = (a - s.windows[w].base.toNat) % s.windows[w].pitch / 4
        ∧ n = if s.windows[w].width ≤ x0 then 0 else min 8 (s.windows[w].width - x0))
    ∧ (s.locate a = .unclassified ↔
        ¬(s.controlBase ≤ a ∧ a < s.controlBase + 4096)
        ∧ ∀ w : WindowNo, s.windows[w].enable = true →
            ¬(s.windows[w].base.toNat ≤ a ∧ a < s.windows[w].base.toNat + s.windows[w].pitch * s.windows[w].height)))
  ∧ (∀ (g : Grid) (W H x y : Nat), 1 ≤ g.columns → 1 ≤ g.rows → x < W → y < H →
      ∃ c r, c < g.columns ∧ r < g.rows ∧ zoneAt g W H x y = r * g.columns + c
        ∧ c * W / g.columns ≤ x ∧ x < (c + 1) * W / g.columns
        ∧ r * H / g.rows ≤ y ∧ y < (r + 1) * H / g.rows)
  ∧ ∀ v : Word,
      luminance .rgb10 v
          = max (v.extractLsb' 20 10).toNat (max (v.extractLsb' 10 10).toNat (v.extractLsb' 0 10).toNat)
      ∧ (let m8 := max (v.extractLsb' 16 8).toNat (max (v.extractLsb' 8 8).toNat (v.extractLsb' 0 8).toNat)
         luminance .rgb8 v = 4 * m8 + m8 / 64)
      ∧ luminance .rgb10 v ≤ 1023 ∧ luminance .rgb8 v ≤ 1023

/-- REQUEST_RECEIVED, a counting write that does not complete its frame, by the state of the buffer (R25 to R33): what
the buffer becomes, which flags are set, what leaves the queue or the engine. A beat that brings the count to the area
completes the frame: a FILLING buffer becomes QUEUED, keeps its bank and joins the tail of the analysis queue; a BLIND
buffer becomes IDLE with count 0 and sets BLIND (R34, R35, R36). A partial pixel in the beat sets PARTIAL_PIXEL besides
(R50). A beat that fails the writer filter, or lies in no window, changes nothing but the Link Path, and one that passes it
without a whole pixel sets PARTIAL_PIXEL at most (R4, R25, R50). -/
def Obligations.CountingWriteMovesTheBuffer : Prop :=
  (∀ (s : State) (r : Request) (b : WriteBeat) (w : WindowNo) (y x0 n : Nat), CountingWrite s r b w y x0 n →
     s.buffers[w].state ≠ .disabled →
     countedBefore s.buffers[w] + (wholePixels b n).length < s.windows[w].area →
     let adds := fun (t : State) (fs : List Flag) => flagsAdded s t (partialFlags b n ++ fs)
     ∃ t, exec (.requestReceived r) s = .next t ∧ t.link = joined s r
       ∧ (∀ v, v ≠ w → t.buffers[v] = s.buffers[v])
       ∧ t.buffers[w].written = countedBefore s.buffers[w] + (wholePixels b n).length
       ∧ (match s.buffers[w].state with
           | .disabled => False
           | .idle => t.buffers[w].state = claimed s ∧ adds t []
           | .filling k => t.buffers[w].state = .filling k ∧ adds t []
           | .blind => t.buffers[w].state = .blind ∧ adds t []
           | .queued k => t.buffers[w].state = .filling k ∧ adds t [.dropped]
           | .analysing k => t.buffers[w].state = .filling k ∧ adds t [.aborted, .dropped]
           | .ready _ =>
             t.buffers[w].state = claimed s
             ∧ adds t (if s.scan.pointer = some w ∧ s.scan.committed < s.grid.rows then [.tear, .dropped] else [.dropped])
           | .shown _ =>
             t.buffers[w].state = claimed s
             ∧ adds t (if s.scan.pointer = some w ∧ s.scan.committed < s.grid.rows then [.tear] else []))
       ∧ t.queue
           = (match s.buffers[w].state with
               | .queued _ => s.queue.filter (· ≠ w)
               | _ => s.queue)
       ∧ t.engine
           = (match s.buffers[w].state with
               | .analysing _ => { s.engine with analysis := none }
               | _ => s.engine)
       ∧ Outside [.link, .buffers, .queue, .banks, .engine, .accrued] s t)
  ∧ (∀ (s : State) (r : Request) (b : WriteBeat) (w : WindowNo) (y x0 n : Nat), CountingWrite s r b w y x0 n →
       s.windows[w].area ≤ s.buffers[w].written + (wholePixels b n).length →
       (∀ k, s.buffers[w].state = .filling k →
         ∃ t, exec (.requestReceived r) s = .next t ∧ t.link = joined s r
           ∧ t.buffers
               = s.buffers.set w { state := .queued k, written := s.buffers[w].written + (wholePixels b n).length }
           ∧ t.queue = s.queue ++ [w] ∧ flagsAdded s t (partialFlags b n)
           ∧ Outside [.link, .buffers, .queue, .banks, .accrued] s t)
       ∧ (s.buffers[w].state = .blind →
         ∃ t, exec (.requestReceived r) s = .next t ∧ t.link = joined s r
           ∧ t.buffers = s.buffers.set w { state := .idle, written := 0 }
           ∧ flagsAdded s t (partialFlags b n ++ [.blind]) ∧ Outside [.link, .buffers, .accrued] s t))
  ∧ (∀ (s : State) (r : Request) (b : WriteBeat), received s r → r.body = .write [b] →
       (s.locate r.address.toNat = .unclassified → exec (.requestReceived r) s = .next { s with link := joined s r })
       ∧ ∀ w y x0 n, s.locate r.address.toNat = .window w y x0 n →
           (filterPasses r.requester s.windows[w].writerMatch s.windows[w].writerMask = false →
             exec (.requestReceived r) s = .next { s with link := joined s r })
           ∧ (filterPasses r.requester s.windows[w].writerMatch s.windows[w].writerMask = true → wholePixels b n = [] →
               ∃ t, exec (.requestReceived r) s = .next t ∧ t.link = joined s r
                 ∧ flagsAdded s t (partialFlags b n) ∧ Outside [.link, .accrued] s t))

/-- The pixels of a counting write enter the bank its buffer holds, each in its zone (R49): the zone's peak, sum, bright
count and pixel count take the luminance of every whole pixel there, starting from the bank as it stood if the buffer
was FILLING, and from an emptied bank with the bright threshold in force if the write began a frame (R27, R29, R30, R47,
R48). The other bank is left alone. -/
def Obligations.PixelsEnterTheBank : Prop :=
  ∀ (s t : State) (r : Request) (b : WriteBeat) (w : WindowNo) (y x0 n : Nat) (k : BankNo),
    CountingWrite s r b w y x0 n → s.buffers[w].state ≠ .disabled → exec (.requestReceived r) s = .next t →
    t.buffers[w].state.bank = some k →
    BankCounts s w b y x0 n
        (if s.buffers[w].state = .filling k then s.banks[k]
          else { threshold := s.brightThreshold, zones := ZoneTable.empty })
        t.banks[k]
    ∧ ∀ j, j ≠ k → t.banks[j] = s.banks[j]

/-! ### The zone computation (chapter 4) -/

/-- ANALYSIS_START (R37, R54, R77): the IDLE engine takes the head of the queue, the lowest-numbered free slot, the next
tag and a snapshot; a slot is always free. The snapshot holds the selected set if its table is VALID and the default set
otherwise, recorded as A, B or DEFAULT (R55, R56, R75, section 10.4), and the cap, the calibration, the map, the marks,
the RUNNING lines and the History Table as they stand (R57, R70). With an ACTIVE engine or an empty queue nothing starts.
-/
def Obligations.AnalysisStartsOnTheHead : Prop :=
  ∀ (s : State), live s → BufferInv s →
    (∀ w rest, s.engine.analysis = none → s.queue = w :: rest →
      ∃ (b : BankNo) (k : SlotNo) (snap : Snapshot), s.buffers[w].state = .queued b ∧ s.slotTaken k = false
        ∧ (∀ j : SlotNo, j < k → s.slotTaken j = true) ∧ SnapshotTaken s snap
        ∧ exec .analysisStart s
            = .next
                { s with
                  buffers := s.buffers.set w { s.buffers[w] with state := .analysing b }
                  queue := rest
                  engine :=
                    { s.engine with
                      tag := s.engine.tag + 1
                      analysis :=
                        some { buffer := w, bank := b, slot := k, tag := s.engine.tag + 1, snap := snap } } })
    ∧ (s.engine.analysis ≠ none ∨ s.queue = [] → exec .analysisStart s = .next s)

/-- ANALYSIS_COMPLETION (R38, R68, R71, R88): the result is written into the slot, the History Table is replaced, the
flags of the result are set, the engine is IDLE and the bank free. With no scan of its window that waits for a result
the buffer is READY with the slot. Otherwise the slot becomes the scan result, the buffer is SHOWN, the rows already
passed are committed from the new result, each mapped zone whose duty this changes marks its channel and makes its line owe
a LATCH (R80, R116), and FALLBACK, if it is in force, is left with FALLBACK_EXIT; the supervision timer is not restarted.
An IDLE engine completes nothing (assumption 9). -/
def Obligations.AnalysisCompletes : Prop :=
  (∀ s : State, s.engine.analysis = none → exec .analysisCompletion s = .next s)
  ∧ ∀ (s : State) (a : Analysis), live s → s.engine.analysis = some a →
      let o := analyse s.grid s.banks[a.bank] a
      let joins := s.scan.pointer = some a.buffer ∧ s.scan.result = none
      ∃ t, exec .analysisCompletion s = .next t ∧ t.results = s.results.set a.slot o.result ∧ t.history = o.history
        ∧ t.engine = { s.engine with analysis := none }
        ∧ t.buffers
            = s.buffers.set a.buffer
                { s.buffers[a.buffer] with state := if joins then .shown a.slot else .ready a.slot }
        ∧ (∀ f, f ≠ .eventOverrun →
            t.flag f
              = (s.flag f || (o.result.budgetLimited && decide (f = .budgetLimited))
                  || (o.result.boostLimited && decide (f = .boostLimited))))
        ∧ (¬joins → Outside [.results, .history, .accrued, .engine, .buffers] s t)
        ∧ (joins →
            t.scan = { s.scan with result := some a.slot, committed := s.scan.passed, fallback := .normal }
            ∧ (∀ z, t.drive.get z
                = if z < s.scan.passed * s.grid.columns then { duty := o.result.duty.get z, gain := o.result.gain.get z }
                  else s.drive.get z)
            ∧ DutiesMarked s t
                (fun z => z < s.scan.passed * s.grid.columns ∧ (s.drive.get z).duty ≠ o.result.duty.get z)
            ∧ t.events
                = (match s.scan.fallback with
                    | .normal => s.events
                    | .fallback => eventsAfter s.events s.ms .fallbackExit (.window a.buffer) a.tag.toNat)
            ∧ Outside [.results, .history, .accrued, .engine, .buffers, .scan, .drive, .lines, .events] s t)

/-- Stage 2 (R60): the tone curve between two of its points, with a division that rounds toward minus infinity, clamped
to 0 to 4095 and raised to min_level. -/
def Obligations.ToneCurveRoundsDown : Prop :=
  ∀ (p : ParamSet) (v : Nat),
    (toneCurve p v : Int)
      = max (p.minLevel : Int)
          (max 0
            (min 4095
              ((p.curve.getD (v / 32) 0 : Int)
                + Int.fdiv (((p.curve.getD (v / 32 + 1) 0 : Int) - (p.curve.getD (v / 32) 0 : Int)) * ((v % 32 : Nat) : Int) + 16)
                    32)))

/-- Every analysis follows the rules of its stages, and the laws of R58, R65 and R67 hold of its result. Stage by stage
(R59, R61 to R67, `StagesHold`): the zone statistic, the halo guard as the largest weighted level around the zone, the boost
limiter, the temporal filter with its scene cut, calibration and darkness, the budget, the light on each zone and its
gain; the result records Total, cap, s_b, mean, marks and dark zones (R51, R72), and the History Table takes F and the
counters (R71). The duties sum to at most the cap of the snapshot, a dark zone has duty 0, and a gain ceiling in its range
keeps every gain between 256 and 4096. -/
def Obligations.ResultKeepsItsBounds : Prop :=
  ∀ (g : Grid) (bank : Bank) (a : Analysis),
    let r := (analyse g bank a).result
    let h := (analyse g bank a).history
    let p := a.snap.params
    (∃ v : StageValues, StagesHold g bank a.snap v
      ∧ (∀ z, z < g.zones →
          r.duty.get z
              = (if a.snap.cap < v.total g then v.duty z * (a.snap.cap * 65536 / v.total g) / 65536 else v.duty z)
          ∧ r.gain.get z
              = (if v.falling z = 0 then p.gainCeiling
                else min p.gainCeiling (max 256 (p.eRef * 256 / v.falling z)))
          ∧ h.zones.get z = { level := v.filtered z, boost := v.boost z })
      ∧ r.total = v.total g
      ∧ r.scale = (if a.snap.cap < v.total g then a.snap.cap * 65536 / v.total g else 65536)
      ∧ (r.boostLimited = true ↔ ∃ z, z < g.zones ∧ p.sustainLevel < v.halo z ∧ p.boostFrames < v.boost z))
    ∧ (r.budgetLimited = true ↔ a.snap.cap < r.total) ∧ r.cap = a.snap.cap ∧ r.tag = a.tag ∧ r.window = a.buffer
    ∧ r.setUsed = a.snap.setUsed ∧ r.mean = meanOf g bank ∧ h.valid = true ∧ h.mean = meanOf g bank
    ∧ (∃ dark : List Nat, dark.Nodup ∧ dark.length = r.darkZones ∧ ∀ z, z ∈ dark ↔ z < g.zones ∧ darkIn a.snap z)
    ∧ ((List.range g.zones).map r.duty.get).sum ≤ a.snap.cap
    ∧ (∀ z, z < g.zones → darkIn a.snap z → r.duty.get z = 0)
    ∧ (gainOk p.gainCeiling → ∀ z, gainOk (r.gain.get z))

/-! ### Scan and fallback (chapter 5) -/

/-- REQUEST_RECEIVED, a scan read that starts a scan of a window whose buffer has a result (R39, R83, R84, R93): the
rows left of the scan on the panel are flushed, the new result commits the rows its read-out has passed, the buffer is
SHOWN, FALLBACK is left with FALLBACK_EXIT, the supervision timer starts from 0 and a NEXT_SCAN trip is released with
OC_RELEASED after it (the order of the two events is assumption 10). Each mapped zone whose duty the flush or the commit
changes marks its channel and makes its line owe a LATCH (R80, R116). -/
def Obligations.ScanStartsWithAResult : Prop :=
  ∀ (s : State) (r : Request) (w : WindowNo) (y x0 n : Nat) (k : SlotNo), ScanRead s r w y x0 n →
    s.buffers[w].state.result = some k →
    y < s.windows[w].height / s.grid.rows →
    (s.scan.pointer ≠ some w ∨ (s.scan.passed = s.grid.rows ∧ y < s.scan.progress)) →
    let passed := ((List.range s.grid.rows).filter fun i =>
      decide (i * s.windows[w].height / s.grid.rows - s.grid.leadLines ≤ y)).length
    ∃ t, exec (.requestReceived r) s = .next t ∧ t.link = joined s r
      ∧ t.scan
          = { pointer := some w, result := some k, progress := y, passed := passed, committed := passed,
              fallback := .normal, supervision := .running 0 }
      ∧ t.buffers = s.buffers.set w { s.buffers[w] with state := .shown k }
      ∧ (∀ z, t.drive.get z
          = if z < passed * s.grid.columns then { duty := s.results[k].duty.get z, gain := s.results[k].gain.get z }
            else afterFlush s z)
      ∧ DutiesMarked s t
          (fun z =>
            (afterFlush s z).duty ≠ (s.drive.get z).duty
            ∨ (z < passed * s.grid.columns ∧ s.results[k].duty.get z ≠ (afterFlush s z).duty))
      ∧ t.protection = afterScanStart s.protection
      ∧ t.events
          = afterRelease s
              (match s.scan.fallback with
                | .normal => s.events
                | .fallback => eventsAfter s.events s.ms .fallbackExit (.window w) s.results[k].tag.toNat)
      ∧ (∀ f, f ≠ .eventOverrun → t.flag f = s.flag f)
      ∧ Outside [.link, .buffers, .drive, .scan, .lines, .protection, .events, .accrued] s t

/-- REQUEST_RECEIVED, a scan read that starts a scan of a window whose buffer has no result: the rows left of the scan on
the panel are flushed, with the marks of the duties this changes (R80, R116), the new scan holds and commits nothing, HOLD
is set, and LATE as well when the buffer is QUEUED or ANALYSING, the supervision timer starts from 0 and a NEXT_SCAN trip
is released (R84, R85, R143). -/
def Obligations.ScanHoldsWithoutAResult : Prop :=
  ∀ (s : State) (r : Request) (w : WindowNo) (y x0 n : Nat), ScanRead s r w y x0 n →
    s.buffers[w].state.result = none →
    y < s.windows[w].height / s.grid.rows →
    (s.scan.pointer ≠ some w ∨ (s.scan.passed = s.grid.rows ∧ y < s.scan.progress)) →
    ∃ t, exec (.requestReceived r) s = .next t ∧ t.link = joined s r
      ∧ t.scan
          = { s.scan with
              pointer := some w
              result := none
              progress := y
              passed := ((List.range s.grid.rows).filter fun i =>
                decide (i * s.windows[w].height / s.grid.rows - s.grid.leadLines ≤ y)).length
              committed := 0
              supervision := .running 0 }
      ∧ (∀ z, t.drive.get z = afterFlush s z)
      ∧ DutiesMarked s t (fun z => (afterFlush s z).duty ≠ (s.drive.get z).duty)
      ∧ t.protection = afterScanStart s.protection ∧ t.events = afterRelease s s.events
      ∧ flagsAdded s t
          ((match s.buffers[w].state with
            | .queued _ => [.hold, .late]
            | .analysing _ => [.hold, .late]
            | _ => [.hold])
          ++ (if s.protection.trip.map Trip.mode = some .nextScan then overrun s else []))
      ∧ Outside [.link, .drive, .scan, .lines, .protection, .events, .accrued] s t

/-- REQUEST_RECEIVED, a READ of one beat that starts no scan. A scan read of the window on scan: progress becomes the
larger of progress and the line, the rows it passes are committed from the scan's result, with the marks of the duties
this changes (R80, R116), and a held scan only counts them (R83, R86). A beat in the control region, an unclassified beat,
a beat that fails the scan filter, and a scan read outside row 0 of a window that is not on scan change nothing but the
Link Path (R7, R83, R149). -/
def Obligations.ScanReadsAdvanceTheScan : Prop :=
  (∀ (s : State) (r : Request) (w : WindowNo) (y x0 n : Nat), ScanRead s r w y x0 n → s.scan.pointer = some w →
     (s.windows[w].height / s.grid.rows ≤ y ∨ s.scan.passed ≠ s.grid.rows ∨ s.scan.progress ≤ y) → 1 ≤ s.grid.rows →
     let progress := max s.scan.progress y
     let passed := ((List.range s.grid.rows).filter fun i =>
       decide (i * s.windows[w].height / s.grid.rows - s.grid.leadLines ≤ progress)).length
     let committed := fun z => s.scan.committed * s.grid.columns ≤ z ∧ z < passed * s.grid.columns
     ∃ t, exec (.requestReceived r) s = .next t ∧ t.link = joined s r
       ∧ t.scan
           = { s.scan with
               progress := progress
               passed := passed
               committed := if s.scan.result = none then s.scan.committed else passed }
       ∧ (∀ k, s.scan.result = some k →
           (∀ z, committed z → t.drive.get z = { duty := s.results[k].duty.get z, gain := s.results[k].gain.get z })
           ∧ (∀ z, ¬committed z → t.drive.get z = s.drive.get z)
           ∧ DutiesMarked s t (fun z => committed z ∧ (s.drive.get z).duty ≠ s.results[k].duty.get z))
       ∧ (s.scan.result = none → Outside [.link, .scan] s t) ∧ Outside [.link, .scan, .drive, .lines] s t)
  ∧ (∀ (s : State) (r : Request), received s r → r.body = .read 1 →
      ((∃ o, s.locate r.address.toNat = .control o) ∨ s.locate r.address.toNat = .unclassified
        ∨ ∃ w y x0 n, s.locate r.address.toNat = .window w y x0 n
            ∧ (filterPasses r.requester s.windows[w].scanMatch s.windows[w].scanMask = false
              ∨ (s.scan.pointer ≠ some w ∧ s.windows[w].height / s.grid.rows ≤ y))) →
      exec (.requestReceived r) s = .next { s with link := joined s r })

/-- SUPERVISION_TIMER_EXPIRY in NORMAL (R89 to R91): the scan ends, every zone of the grid takes fallback_duty if it is
lit in fallback and 0 otherwise, with gain 256 and the marks of the duties this changes (R80, R116), FALLBACK_ENTER names
the window that was on scan, and FALLBACK_SEEN is set. SUPERVISION_TIMER_EXPIRY in FALLBACK ends the scan and does nothing
else; before scan_timeout, or with the timer STOPPED, it does not come about (R90, R91, assumption 9). -/
def Obligations.SupervisionTimerExpires : Prop :=
  (∀ (s : State) (e : Nat), live s → s.scan.supervision = .running e → s.limits.scanTimeout ≤ e →
     s.scan.fallback = .normal →
     let duty := fun z =>
       if (s.zoneChannel z).isSome = true ∧ s.faults.openMarks.getLsbD z = false ∧ s.faults.shortMarks.getLsbD z = false then
         s.limits.fallbackDuty
       else 0
     ∃ t, exec .supervisionTimerExpiry s = .next t
       ∧ t.scan
           = { pointer := none, result := none, progress := 0, passed := 0, committed := 0, fallback := .fallback,
               supervision := .stopped }
       ∧ (∀ z, t.drive.get z = if z < s.grid.zones then { duty := duty z, gain := 256 } else s.drive.get z)
       ∧ DutiesMarked s t (fun z => z < s.grid.zones ∧ (s.drive.get z).duty ≠ duty z)
       ∧ t.events
           = eventsAfter s.events s.ms .fallbackEnter
               (match s.scan.pointer with
                 | some w => .window w
                 | none => .none) 0
       ∧ flagsAdded s t (.fallbackSeen :: overrun s)
       ∧ Outside [.scan, .drive, .lines, .events, .accrued] s t)
  ∧ (∀ (s : State), live s →
       (∀ e, s.scan.supervision = .running e → s.limits.scanTimeout ≤ e → s.scan.fallback = .fallback →
         exec .supervisionTimerExpiry s
           = .next
               { s with
                 scan :=
                   { pointer := none, result := none, progress := 0, passed := 0, committed := 0, fallback := .fallback,
                     supervision := .stopped } })
       ∧ ((∀ e, s.scan.supervision = .running e → e < s.limits.scanTimeout) →
           exec .supervisionTimerExpiry s = .next s))

/-! ### Pixel Compensation and the returns (chapters 1 and 6) -/

/-- RETURN_BEAT_RECEIVED for a FORWARDED read (R12, R13, R95, R96): the oldest entry counts the beat; while the upstream
link is DOWN the beat is discarded; while it is UP the beat leaves upstream. A beat that is compensated (R95) has each active
word scaled under the gain blended from the four zones around its pixel (R97, R100), with its other words as received, and
CLIPPED is set exactly when the largest field of an active word exceeds its range under the blended gain, which is when a
field is clamped or the hue-preserving clip acts (R101 to R104). No colour field leaves lower than it came, and every other
bit leaves as received (R13). -/
def Obligations.ForwardedReturnIsNeverLowered : Prop :=
  ∀ (s : State) (e : Tracked) (rest : List Tracked) (classes : List ReadClass) (data : Beat), live s →
    s.link.downstream = .up → s.link.tracking = e :: rest → e.origin = .forwarded classes →
    (∀ z, 256 ≤ (s.drive.get z).gain) →
    let c := classes.getD e.received noClass
    let tracking := if e.received + 1 < e.beatCount then { e with received := e.received + 1 } :: rest else rest
    let fits := c.compensate = true ∧ 1 ≤ c.active ∧ 8 * s.grid.columns ≤ c.width ∧ 8 * s.grid.rows ≤ c.height
    let gain := fun row col => (s.drive.get (row * s.grid.columns + col)).gain
    let rl := (place s.grid.rows c.height (2 * c.line + 1)).1
    let wy := (place s.grid.rows c.height (2 * c.line + 1)).2
    let rb := if wy = 0 then rl else rl + 1
    let blended := fun k =>
      let cl := (place s.grid.columns c.width (2 * (c.firstPixel + k) + 1)).1
      let wx := (place s.grid.columns c.width (2 * (c.firstPixel + k) + 1)).2
      let cr := if wx = 0 then cl else cl + 1
      ((gain rl cl * (256 - wx) + gain rl cr * wx) * (256 - wy) + (gain rb cl * (256 - wx) + gain rb cr * wx) * wy + 32768)
        / 65536
    let largest := fun k =>
      let q := colours c.format (pixelWord data k)
      max q.1 (max q.2.1 q.2.2)
    let full := match c.format with
      | .rgb10 => 1023
      | .rgb8 => 255
    (s.link.upstream = .down →
      exec (.returnBeatReceived data) s = .next { s with link := { s.link with tracking := tracking } })
    ∧ (s.link.upstream = .up →
        ∃ t out, exec (.returnBeatReceived data) s = .next t
          ∧ t.link = { s.link with tracking := tracking, sentUp := s.link.sentUp ++ [out] }
          ∧ Outside [.link, .accrued] s t
          ∧ (∀ f, f ≠ .clipped → t.flag f = s.flag f)
          ∧ (t.flag .clipped = true ↔
              s.flag .clipped = true
              ∨ (fits ∧ ∃ k, k < 8 ∧ k < c.active ∧ full < (largest k * blended k + 128) / 256))
          ∧ (¬fits → out = data)
          ∧ (fits → ∀ k, k < 8 → k < c.active → pixelWord out k = compensateWord c (blended k) (pixelWord data k))
          ∧ ∀ k, k < 8 →
              (c.active ≤ k → pixelWord out k = pixelWord data k)
              ∧ (c.format = .rgb10 → (pixelWord out k).extractLsb' 30 2 = (pixelWord data k).extractLsb' 30 2)
              ∧ (c.format = .rgb8 → (pixelWord out k).extractLsb' 24 8 = (pixelWord data k).extractLsb' 24 8)
              ∧ (colours c.format (pixelWord data k)).1 ≤ (colours c.format (pixelWord out k)).1
              ∧ (colours c.format (pixelWord data k)).2.1 ≤ (colours c.format (pixelWord out k)).2.1
              ∧ (colours c.format (pixelWord data k)).2.2 ≤ (colours c.format (pixelWord out k)).2.2)

/-- The place of a pixel among the centres of columns, or of rows (R98, R99), and the three colour fields of a
compensated word (R101 to R103). A pixel before the first centre, or from the last one on, takes the edge without
blending; otherwise the last centre at or before it counts, with a weight below 256 toward the next. Each field is
scaled with rounding and clamped, under the blended gain, or where the hue-preserving clip acts under full scale × 256
divided by the largest field, which keeps that field in range; the other bits stay, and no field is lowered. R103 adds that
this is the largest such gain, which its own formula does not give (assumption 24); no clause says it. -/
def Obligations.PixelsAreScaledByPlace : Prop :=
  (∀ (n size pos : Nat), 1 ≤ n → 8 * n ≤ size →
    let centre := fun i => i * size / n + (i + 1) * size / n
    (pos < centre 0 → place n size pos = (0, 0))
    ∧ (centre 0 ≤ pos →
        (place n size pos).1 < n ∧ centre (place n size pos).1 ≤ pos
        ∧ (∀ j, j < n → centre j ≤ pos → j ≤ (place n size pos).1)
        ∧ ((place n size pos).1 + 1 = n → (place n size pos).2 = 0)
        ∧ ((place n size pos).1 + 1 < n →
            (place n size pos).2
              = (pos - centre (place n size pos).1) * 256
                  / (centre ((place n size pos).1 + 1) - centre (place n size pos).1)))
    ∧ (place n size pos).2 ≤ 255)
  ∧ ∀ (c : ReadClass) (g : Nat) (v : Word), 256 ≤ g →
      let full := match c.format with
        | .rgb10 => 1023
        | .rgb8 => 255
      let q := colours c.format v
      let m := max q.1 (max q.2.1 q.2.2)
      let u := if c.hueClip = true ∧ 0 < m ∧ full < (m * g + 128) / 256 then full * 256 / m else g
      let out := compensateWord c g v
      colours c.format out
          = (min full ((q.1 * u + 128) / 256), min full ((q.2.1 * u + 128) / 256), min full ((q.2.2 * u + 128) / 256))
      ∧ (c.format = .rgb10 → out.extractLsb' 30 2 = v.extractLsb' 30 2)
      ∧ (c.format = .rgb8 → out.extractLsb' 24 8 = v.extractLsb' 24 8)
      ∧ 256 ≤ u ∧ u ≤ g ∧ (c.hueClip = true → (m * u + 128) / 256 ≤ full)
      ∧ (g = 256 → out = v)

/-! ### Driver lines (chapter 7) -/

/-- SETUP_BUILD (R109, R111, R115): a free line that is STARTING, or RUNNING and owing a SETUP, sends one frame with,
for each position, the mask of mapped channels whose zones have no mark, the phase and the current range, and the CRC-8 of
R173 (section 7.3); setup owed becomes no. -/
def Obligations.SetupIsBuilt : Prop :=
  ∀ (s : State) (l : LineNo), live s → s.lines[l].inFlight = none →
    (s.lines[l].state = .starting ∨ (s.lines[l].state = .running ∧ s.lines[l].setupOwed = true)) →
    ∃ f : Frame,
      exec (.setupBuild l) s
        = .next { s with lines := s.lines.set l { s.lines[l] with setupOwed := false, inFlight := some f } }
      ∧ f.kind = .setup ∧ f.mask = 0 ∧ f.ended = false ∧ f.bytes.length = 4 + 5 * s.driverCount l
      ∧ f.bytes.take 3 = [0x01#8, 0x00#8, BitVec.ofNat 8 (s.driverCount l)]
      ∧ f.bytes.getLast? = some (crc8 f.bytes.dropLast)
      ∧ ∀ p, p < s.driverCount l →
          (∀ k, k < 16 →
            (f.bytes.getD (3 + 5 * p) 0 ++ f.bytes.getD (4 + 5 * p) 0).getLsbD k
              = match s.channelZone l p k with
                | some z => !s.faults.openMarks.getLsbD z && !s.faults.shortMarks.getLsbD z
                | none => false)
          ∧ (f.bytes.getD (5 + 5 * p) 0 ++ f.bytes.getD (6 + 5 * p) 0).toNat
              = (p * s.phaseStep l + s.phaseOffset l) % 4096
          ∧ (f.bytes.getD (7 + 5 * p) 0).toNat = s.currentRange l

/-- LEVEL_BUILD (R109, R112, R115): the frame runs from the lowest to the highest position with a dirty channel below
the driver count, each dirty channel there carries its zone's duty under the duty ceiling, halved when its position is
hot, the frame ends with the CRC-8 of R173 (section 7.3), and every dirty flag is cleared. Every code sent is at most the
ceiling in force and at most 4095. -/
def Obligations.LevelCarriesTheDuties : Prop :=
  ∀ (s : State) (l : LineNo) (lo hi : Nat), live s → LevelInv s → s.lines[l].inFlight = none →
    s.lines[l].state = .running → s.lines[l].setupOwed = false →
    lo ≤ hi → hi < s.driverCount l → positionFlags s.lines[l].dirty lo ≠ 0 → positionFlags s.lines[l].dirty hi ≠ 0 →
    (∀ p, p < s.driverCount l → positionFlags s.lines[l].dirty p ≠ 0 → lo ≤ p ∧ p ≤ hi) →
    ∃ f : Frame,
      exec (.levelBuild l) s
        = .next { s with lines := s.lines.set l { s.lines[l] with dirty := 0, inFlight := some f } }
      ∧ f.kind = .level ∧ f.mask = s.lines[l].dirty &&& channelsBelow (s.driverCount l)
      ∧ f.bytes.length = 4 + 34 * (hi + 1 - lo)
      ∧ f.bytes.take 3 = [0x02#8, BitVec.ofNat 8 lo, BitVec.ofNat 8 (hi + 1 - lo)]
      ∧ f.bytes.getLast? = some (crc8 f.bytes.dropLast)
      ∧ ∀ p, lo ≤ p → p ≤ hi →
          f.bytes.getD (3 + 34 * (p - lo)) 0 ++ f.bytes.getD (4 + 34 * (p - lo)) 0 = positionFlags s.lines[l].dirty p
          ∧ ∀ k, k < 16 →
              let code := (f.bytes.getD (5 + 34 * (p - lo) + 2 * k) 0 ++ f.bytes.getD (6 + 34 * (p - lo) + 2 * k) 0).toNat
              code ≤ 4095 ∧ code ≤ s.ceiling
              ∧ (s.lines[l].dirty.getLsbD (16 * p + k) = false → code = 0)
              ∧ (s.lines[l].dirty.getLsbD (16 * p + k) = true →
                  let duty := match s.channelZone l p k with
                    | some z => (s.drive.get z).duty
                    | none => 0
                  code = if s.lines[l].hot.getLsbD p then min duty s.ceiling / 2 else min duty s.ceiling)

/-- LATCH_BUILD and POLL_BUILD (R109, R113, R115): a free RUNNING line with nothing before it in the order of R115 sends
its LATCH, or its POLL with five zero bytes for each position; a POLL restarts the poll timer. -/
def Obligations.LatchAndPollAreBuilt : Prop :=
  ∀ (s : State) (l : LineNo), live s → s.lines[l].inFlight = none → s.lines[l].state = .running →
    s.lines[l].setupOwed = false → s.lines[l].dirty = 0 →
    (s.lines[l].latchOwed = true →
      exec (.latchBuild l) s
        = .next
            { s with
              lines := s.lines.set l
                { s.lines[l] with
                  latchOwed := false
                  inFlight :=
                    some
                      { kind := .latch
                        bytes :=
                          [0x03#8, 0x00#8, BitVec.ofNat 8 (s.driverCount l),
                            crc8 [0x03#8, 0x00#8, BitVec.ofNat 8 (s.driverCount l)]]
                        mask := 0, ended := false, afterCeiling := true } } })
    ∧ (s.lines[l].latchOwed = false → s.lines[l].pollDue = true →
        ∃ f : Frame,
          exec (.pollBuild l) s
            = .next
                { s with
                  lines := s.lines.set l
                    { s.lines[l] with pollDue := false, pollTimer := .running 0, inFlight := some f } }
          ∧ f.kind = .poll ∧ f.bytes.length = 4 + 5 * s.driverCount l
          ∧ f.bytes.take 3 = [0x04#8, 0x00#8, BitVec.ofNat 8 (s.driverCount l)]
          ∧ (∀ i, i < 5 * s.driverCount l → f.bytes.getD (3 + i) 1 = 0)
          ∧ f.bytes.getLast? = some (crc8 f.bytes.dropLast))

/-- LATCH_END (R113, R142): the last byte of the LATCH in flight has been sent, and the time since the latest LATCH end
counts from 0. RETURN_CHECK of a whole return equal to its SETUP, LEVEL or LATCH (R114, R118, R120): the line is free with
no failures; a STARTING line runs, with every channel below its driver count dirty, a LATCH and a POLL owed and LINE_RUNNING
added; a LATCH built after the last ceiling change makes ceiling latched yes, and during a power-down the drain is tested
with that (R135). A return that is not yet whole changes nothing. -/
def Obligations.GoodReturnFreesTheLine : Prop :=
  (∀ (s : State) (l : LineNo) (f : Frame), live s → s.lines[l].inFlight = some f → f.kind = .latch → f.ended = false →
     exec (.latchEnd l) s
       = .next
           { s with
             lines := s.lines.set l { s.lines[l] with inFlight := some { f with ended := true } }
             protection := { s.protection with sinceLatch := some 0 } })
  ∧ (∀ (s : State) (l : LineNo) (f : Frame), live s → s.lines[l].inFlight = some f →
       let x := { s.lines[l] with inFlight := none, failures := 0 }
       let latched : State :=
         { s with lines := s.lines.set l { x with ceilingLatched := s.lines[l].ceilingLatched || f.afterCeiling } }
       (∀ bytes : List Byte, bytes.length ≠ f.bytes.length → exec (.returnCheck l bytes) s = .next s)
       ∧ (f.kind = .level ∨ (f.kind = .setup ∧ s.lines[l].state ≠ .starting) →
           exec (.returnCheck l f.bytes) s = .next { s with lines := s.lines.set l x })
       ∧ (f.kind = .latch → s.protection.sequencer ≠ .draining → s.protection.sequencer ≠ .dropping →
           exec (.returnCheck l f.bytes) s = .next latched)
       ∧ (f.kind = .latch → s.protection.backlight = .poweringDown →
           s.protection.sequencer = .draining ∨ s.protection.sequencer = .dropping →
           ∃ t, exec (.returnCheck l f.bytes) s = .next t ∧ PowerDownTested latched t
             ∧ Outside [.lines, .protection, .events, .accrued] s t)
       ∧ (f.kind = .setup → s.lines[l].state = .starting →
           ∃ t, exec (.returnCheck l f.bytes) s = .next t
             ∧ t.lines
                 = s.lines.set l
                     { x with
                       state := .running
                       dirty := s.lines[l].dirty ||| channelsBelow (s.driverCount l)
                       latchOwed := true
                       pollDue := true
                       pollTimer := .running 0 }
             ∧ t.events = eventsAfter s.events s.ms .lineRunning (.line l) (s.driverCount l)
             ∧ flagsAdded s t (overrun s) ∧ Outside [.lines, .events, .accrued] s t))

/-- RETURN_CHECK of a whole POLL return with its header as sent and its CRC-8 right (R114, R118). The line is free with no
failures. For each channel below the driver count whose zone lacks a mark of a kind, the report and the suspect mark of that
kind decide (R125): the mark toggles on a report and goes without one, and a report on a suspect marks the zone in the Zone
Fault Map, adds ZONE_OPEN or ZONE_SHORT and makes the line owe a SETUP; other suspect marks stay. The hot flag of each
position becomes the one reported, with DRIVER_HOT when it sets (R127); a position's channels become dirty, and a LATCH is
owed, when its hot flag has changed or it reports a frame error (R127, R128). The order of the events is assumption 10. -/
def Obligations.PollReportsAreActedOn : Prop :=
  ∀ (s : State) (l : LineNo) (f : Frame) (bytes : List Byte), live s → s.lines[l].inFlight = some f → f.kind = .poll →
    bytes.length = f.bytes.length → bytes.take 3 = f.bytes.take 3 → bytes.getLast? = some (crc8 bytes.dropLast) →
    let n := s.driverCount l
    let confirms := fun kind z => ∃ p k, p < n ∧ k < 16 ∧ confirmedZone s l bytes kind p k = some z
    let hotChanged := fun p => s.lines[l].hot.getLsbD p != (pollReport bytes p).overTemperature
    let resends := fun p => p < n ∧ (hotChanged p = true ∨ (pollReport bytes p).frameError = true)
    ∃ t, exec (.returnCheck l bytes) s = .next t
      ∧ (∀ m, m ≠ l → t.lines[m] = s.lines[m])
      ∧ t.lines[l]
          = { s.lines[l] with
              inFlight := none
              failures := 0
              dirty := t.lines[l].dirty
              latchOwed := t.lines[l].latchOwed
              setupOwed := t.lines[l].setupOwed
              hot := t.lines[l].hot
              openSuspect := t.lines[l].openSuspect
              shortSuspect := t.lines[l].shortSuspect }
      ∧ (∀ p k kind, p < 24 → k < 16 →
          (t.lines[l].suspects kind).getLsbD (16 * p + k)
            = match s.channelZone l p k with
              | some z =>
                if p < n ∧ s.zoneMarked kind z = false then
                  (match kind with
                    | .openString => (pollReport bytes p).openMask.getLsbD k
                    | .shortString => (pollReport bytes p).shortMask.getLsbD k)
                  && !(s.lines[l].suspects kind).getLsbD (16 * p + k)
                else (s.lines[l].suspects kind).getLsbD (16 * p + k)
              | none => (s.lines[l].suspects kind).getLsbD (16 * p + k))
      ∧ (∀ kind z, z < 5184 → (t.zoneMarked kind z = true ↔ s.zoneMarked kind z = true ∨ confirms kind z))
      ∧ (t.lines[l].setupOwed = true ↔ s.lines[l].setupOwed = true ∨ ∃ kind z, confirms kind z)
      ∧ (∀ p, p < 24 →
          t.lines[l].hot.getLsbD p = if p < n then (pollReport bytes p).overTemperature else s.lines[l].hot.getLsbD p)
      ∧ (∀ p k, p < 24 → k < 16 →
          (t.lines[l].dirty.getLsbD (16 * p + k) = true ↔ s.lines[l].dirty.getLsbD (16 * p + k) = true ∨ resends p))
      ∧ (t.lines[l].latchOwed = true ↔ s.lines[l].latchOwed = true ∨ ∃ p, resends p)
      ∧ t.events = (pollEvents s l bytes).foldl (fun es e => eventsAfter es s.ms e.1 e.2.1 e.2.2) s.events
      ∧ flagsAdded s t
          (if pollEvents s l bytes ≠ [] ∧ 32 < s.events.length + (pollEvents s l bytes).length then [.eventOverrun] else [])
      ∧ Outside [.lines, .faults, .events, .accrued] s t

/-- TIMEOUT, and RETURN_CHECK of a whole return that fails its test, as the first or second failure in a row (R114, R118):
LINE_ERROR is set, the failure is counted, and what the frame was for is owed again. The third failure in a row (R122):
the line is FAULTED with its retry delay running and LINE_FAULTED added, or LOCKED with LINE_LOCKED added when seven
entries of its fault history lie within 60,000 ms; that the failing LEVEL or LATCH marks its channels and is owed its
LATCH again is the model's reading (assumption 13), as is that a LOCKED line's state timer is STOPPED (assumption 26).
During a power-down a line that faults is stopped at once and becomes OFF (R134), and the power-down is tested (R135). -/
def Obligations.FailedFrameIsOwedAgain : Prop :=
  (∀ (s : State) (l : LineNo) (f : Frame) (bytes : List Byte), live s → s.lines[l].inFlight = some f →
     s.lines[l].failures < 2 →
     let y := { s.lines[l] with inFlight := none, failures := s.lines[l].failures + 1 }
     let next : State :=
       { s with
         accrued := s.accrued ||| BitVec.twoPow 15 11
         lines := s.lines.set l
           (match f.kind with
             | .setup => { y with setupOwed := s.lines[l].setupOwed || decide (s.lines[l].state = .running) }
             | .level => { y with dirty := s.lines[l].dirty ||| f.mask, latchOwed := true }
             | .latch => { y with latchOwed := true }
             | .poll => { y with pollDue := true }) }
     exec (.timeout l) s = .next next ∧ (badReturn f bytes → exec (.returnCheck l bytes) s = .next next))
  ∧ (∀ (s : State) (l : LineNo) (f : Frame) (bytes : List Byte), live s → s.lines[l].inFlight = some f →
       2 ≤ s.lines[l].failures →
       let history := faultHistory s.lines[l] s.ms
       let locks := faultLocks history s.ms
       let added := fun t : State =>
         t.events
             = (if locks then eventsAfter s.events s.ms .lineLocked (.line l) 7
               else eventsAfter s.events s.ms .lineFaulted (.line l) history.length)
         ∧ flagsAdded s t (.lineError :: overrun s)
       (s.protection.backlight ≠ .poweringDown → s.protection.sequencer ≠ .draining →
         s.protection.sequencer ≠ .dropping →
         ∃ t, exec (.timeout l) s = .next t ∧ (badReturn f bytes → exec (.returnCheck l bytes) s = .next t)
           ∧ t.lines = s.lines.set l (failedLine s.lines[l] f history (if locks then .locked else .faulted))
           ∧ added t ∧ t.len l = false ∧ Outside [.lines, .events, .accrued] s t)
       ∧ (s.protection.backlight = .poweringDown →
           s.protection.sequencer = .draining ∨ s.protection.sequencer = .dropping →
           ∃ a t, exec (.timeout l) s = .next t ∧ (badReturn f bytes → exec (.returnCheck l bytes) s = .next t)
             ∧ a.lines = s.lines.set l (failedLine s.lines[l] f history (if locks then .locked else .off))
             ∧ added a ∧ Outside [.lines, .events, .accrued] s a
             ∧ PowerDownTested a t ∧ Outside [.lines, .protection, .events, .accrued] a t))

/-- POLL_TIMER_EXPIRY (R117) and RETRY_DELAY_ELAPSED (R123): a RUNNING line owes a POLL and its timer stops; a FAULTED
line gets a start order while the backlight is ON or POWERING_UP, with flags cleared and history kept (R119), and is OFF
otherwise. A timer that has not reached its figure does nothing (assumption 9). WAIT_SLOT_ELAPSED (R119, R133): after the
slot length taken at its entry the line is STARTING; if it got the last start order of the power-up, the backlight is ON,
BACKLIGHT_STATE is added and the sequencer is IDLE. That the state timer stops when the line is STARTING or OFF is the
model's reading (assumption 26). -/
def Obligations.LineTimersExpire : Prop :=
  (∀ (s : State) (l : LineNo) (e : Nat), live s →
     (s.lines[l].state = .running → s.lines[l].pollTimer = .running e →
       exec (.pollTimerExpiry l) s
         = .next
             (if s.pollInterval l ≤ e then
               { s with lines := s.lines.set l { s.lines[l] with pollDue := true, pollTimer := .stopped } }
             else s))
     ∧ (s.lines[l].state = .faulted → s.lines[l].stateTimer = .running e → e < s.retryDelay l →
         exec (.retryDelayElapsed l) s = .next s)
     ∧ (s.lines[l].state = .faulted → s.lines[l].stateTimer = .running e → s.retryDelay l ≤ e →
         (s.protection.backlight = .on ∨ s.protection.backlight = .poweringUp →
           exec (.retryDelayElapsed l) s
             = .next
                 { s with lines := s.lines.set l (startedLine s.limits.slotUs s.lines[l]) })
         ∧ (s.protection.backlight ≠ .on → s.protection.backlight ≠ .poweringUp →
             exec (.retryDelayElapsed l) s
               = .next { s with lines := s.lines.set l { s.lines[l] with state := .off, stateTimer := .stopped } })))
  ∧ (∀ (s : State) (l : LineNo) (e : Nat), live s → s.lines[l].state = .waitSlot → s.lines[l].stateTimer = .running e →
       (e < s.lines[l].slotUs → exec (.waitSlotElapsed l) s = .next s)
       ∧ (s.lines[l].slotUs ≤ e → s.protection.sequencer ≠ .up [] l →
           exec (.waitSlotElapsed l) s
             = .next { s with lines := s.lines.set l { s.lines[l] with state := .starting, stateTimer := .stopped } })
       ∧ (s.lines[l].slotUs ≤ e → s.protection.sequencer = .up [] l → s.protection.backlight = .poweringUp →
           ∃ t, exec (.waitSlotElapsed l) s = .next t
             ∧ t.lines = s.lines.set l { s.lines[l] with state := .starting, stateTimer := .stopped }
             ∧ t.protection = { s.protection with backlight := .on, sequencer := .idle, stepTimer := .stopped }
             ∧ t.events = eventsAfter s.events s.ms .backlightState .none 2
             ∧ flagsAdded s t (overrun s) ∧ Outside [.lines, .protection, .events, .accrued] s t))

/-! ### Backlight sequencing and protection (chapter 8) -/

/-- POWER_UP_STEP (R133): once the step timer has reached the slot length in force, the next line of the list gets its
start order and the timer starts again, or stops with the last one; before that, with an empty list and outside a power-up
nothing happens (assumption 9). POWER_DOWN_STEP (R135): while dropping, once the step timer has reached the slot length in
force, the highest-numbered RUNNING line is stopped; with another line RUNNING the timer starts again, and after the last
one the power-down ends with the backlight OFF and BACKLIGHT_STATE added; before that, and while the sequencer is not
dropping, nothing happens (assumption 9). -/
def Obligations.SequencerSteps : Prop :=
  (∀ s : State, live s →
     ((∀ l rest last, s.protection.sequencer ≠ .up (l :: rest) last) ∨ s.protection.stepTimer = .stopped →
       exec .powerUpStep s = .next s)
     ∧ (s.protection.sequencer ≠ .dropping ∨ s.protection.stepTimer = .stopped → exec .powerDownStep s = .next s))
  ∧ (∀ (s : State) (l last : LineNo) (rest : List LineNo) (e : Nat), live s → s.protection.sequencer = .up (l :: rest) last →
     s.protection.stepTimer = .running e →
     (e < s.limits.slotUs → exec .powerUpStep s = .next s)
     ∧ (s.limits.slotUs ≤ e →
         exec .powerUpStep s
           = .next
               { s with
                 protection :=
                   { s.protection with
                     sequencer := .up rest l
                     stepTimer := if rest = [] then .stopped else .running 0 }
                 lines :=
                   if s.lines[l].state = .off ∨ s.lines[l].state = .faulted then
                     s.lines.set l (startedLine s.limits.slotUs s.lines[l])
                   else s.lines }))
  ∧ (∀ (s : State) (l : LineNo) (e : Nat), live s → s.protection.sequencer = .dropping →
       s.protection.stepTimer = .running e → s.lines[l].state = .running →
       (∀ m : LineNo, l < m → s.lines[m].state ≠ .running) →
       (e < s.limits.slotUs → exec .powerDownStep s = .next s)
       ∧ (s.limits.slotUs ≤ e → (∃ m : LineNo, m < l ∧ s.lines[m].state = .running) →
           exec .powerDownStep s
             = .next
                 { s with
                   lines := s.lines.set l (stoppedLine s.lines[l])
                   protection := { s.protection with stepTimer := .running 0 } })
       ∧ (s.limits.slotUs ≤ e → (∀ m : LineNo, m < l → s.lines[m].state ≠ .running) →
           s.protection.backlight = .poweringDown →
           ∃ t, exec .powerDownStep s = .next t ∧ t.lines = s.lines.set l (stoppedLine s.lines[l])
             ∧ t.protection = { s.protection with backlight := .off, sequencer := .idle, stepTimer := .stopped }
             ∧ t.events = eventsAfter s.events s.ms .backlightState .none 0
             ∧ flagsAdded s t (overrun s) ∧ Outside [.lines, .protection, .events, .accrued] s t))

/-- ANALOG_SAMPLE outside SHUTDOWN that does not enter it (R136, R137, R140, R141, R144, R145). The first row of each
table that holds decides the new thermal and the new supply state. The millisecond is counted and the codes are kept
(the tick is the model's reading, assumption 6); a changed thermal state is reported by THERMAL_STATE and a changed
supply state after it (the order of the two is the model's, assumption 10) by its own event with the VLED code; entry
into UV sets UV_SEEN, blanks the backlight, and sets the UV latch in LATCHED mode; a duty ceiling that changes marks
every RUNNING line. -/
def Obligations.SampleMovesThermalAndSupply : Prop :=
  (∀ (m : Limits) (c : SampleSet),
    let T : Int := max c.tb0.toNat c.tb1.toNat
    let tooHot := (m.shutdown : Int) ≤ T ∨ m.dieLimit ≤ c.tdie.toNat
    (∀ now : Thermal, now ≠ .shutdown → (thermalNext m c now = .shutdown ↔ tooHot))
    ∧ (¬tooHot →
        (thermalNext m c .normal = if (m.hot : Int) ≤ T then .hot else if (m.warm : Int) ≤ T then .warm else .normal)
        ∧ (thermalNext m c .warm
            = if (m.hot : Int) ≤ T then .hot
              else if T < (m.warm : Int) - (m.thermalHysteresis : Int) then .normal else .warm)
        ∧ (thermalNext m c .hot
            = if T < (m.warm : Int) - (m.thermalHysteresis : Int) then .normal
              else if T < (m.hot : Int) - (m.thermalHysteresis : Int) then .warm else .hot)))
  ∧ (∀ (m : Limits) (v : Nat),
      (supplyNext m v .ok = if v < m.uv then .uv else if v < m.low then .low else .ok)
      ∧ (supplyNext m v .low = if v < m.uv then .uv else if m.low + m.vledHysteresis ≤ v then .ok else .low)
      ∧ (supplyNext m v .uv
          = if m.uv + m.vledHysteresis ≤ v ∧ m.low + m.vledHysteresis ≤ v then .ok
            else if m.uv + m.vledHysteresis ≤ v then .low else .uv))
  ∧ ∀ (s : State) (c : SampleSet) (x : Thermal) (y : Supply), live s → s.protection.thermal ≠ .shutdown →
      thermalNext s.limits c s.protection.thermal = x → x ≠ .shutdown →
      supplyNext s.limits c.vled.toNat s.protection.supply = y →
      let first :=
        if x = s.protection.thermal then s.events
        else eventsAfter s.events (s.ms + 1) .thermalState .none (thermalCode x)
      let added := (if x = s.protection.thermal then 0 else 1) + if y = s.protection.supply then 0 else 1
      let kind : EventKind := match y with
        | .ok => .supplyOk
        | .low => .supplyLow
        | .uv => .supplyUv
      ∃ t, exec (.analogSample c) s = .next t ∧ t.ms = s.ms + 1
        ∧ t.protection
            = { s.protection with
                codes := c
                thermal := x
                supply := y
                uvLatch :=
                  s.protection.uvLatch
                    || decide (y ≠ s.protection.supply ∧ y = .uv ∧ s.limits.uvMode = .latched) }
        ∧ t.events
            = (if y = s.protection.supply then first else eventsAfter first (s.ms + 1) kind .none c.vled.toNat)
        ∧ flagsAdded s t
            ((if y ≠ s.protection.supply ∧ y = .uv then [.uvSeen] else [])
              ++ if 1 ≤ added ∧ 32 < s.events.length + added then [.eventOverrun] else [])
        ∧ (y = .uv → t.blanked = true)
        ∧ t.scan = { s.scan with supervision := s.scan.supervision.tick }
        ∧ (∀ l : LineNo,
            t.lines[l]
              = if t.ceiling ≠ s.ceiling ∧ s.lines[l].state = .running then
                  markedLine (s.driverCount l) (lineAfterMs s.lines[l])
                else lineAfterMs s.lines[l])
        ∧ Outside [.ms, .scan, .lines, .protection, .events, .accrued] s t

/-- ANALOG_SAMPLE that enters SHUTDOWN (R136 to R138, R140, R141, R144, R145). The millisecond and its timers are counted
and the codes are kept (assumption 6). The entry joins the history with THERMAL_STATE; a lit backlight becomes
THERMAL_OFF, or any backlight LATCHED_OFF with seven entries within 60,000 ms, with BACKLIGHT_STATE after it (that order
is the model's, assumption 10); under a lit backlight the sequencer is IDLE, its step timer STOPPED (the model's choice,
assumption 25), and every WAIT_SLOT, STARTING, RUNNING and FAULTED line is stopped, with LEN low and its frame abandoned,
while LOCKED and OFF lines stay. Then the supply state is evaluated. BL_OFF_N is low and the target is kept. A RUNNING
line under a backlight that was not lit is marked if the ceiling changed. -/
def Obligations.ShutdownStopsEveryLine : Prop :=
  ∀ (s : State) (c : SampleSet), live s → s.protection.thermal ≠ .shutdown →
    thermalNext s.limits c s.protection.thermal = .shutdown →
    ∃ b t : State, exec (.analogSample c) s = .next t ∧ ShutdownEntered (sampled s c) b ∧ SupplyEvaluated b t
      ∧ (∀ l : LineNo,
          t.lines[l]
            = if t.ceiling ≠ s.ceiling ∧ b.lines[l].state = .running then markedLine (s.driverCount l) b.lines[l]
              else b.lines[l])
      ∧ t.blanked = true ∧ t.protection.target = s.protection.target
      ∧ (lightsUp s.protection.backlight → ∀ l : LineNo,
          t.lines[l].state = (if s.lines[l].state = .locked then .locked else .off) ∧ t.len l = false)
      ∧ Outside [.lines, .protection, .events, .accrued] b t

/-- COOL_DOWN_END (R139): the sample that brings the cool-down count to 1,000 leaves SHUTDOWN for WARM or NORMAL with
THERMAL_STATE and the count at 0, and a backlight in THERMAL_OFF begins a power-up (R133) when the target is ON and the
three tables are VALID, and is OFF otherwise, with the target OFF; any other backlight is kept. A sample during SHUTDOWN
that does not end it: the cool-down count rises by 1 when both temperatures are below their figures, and is 0 otherwise;
COOL_DOWN_END does not come about there (assumption 9). Either sample then evaluates the supply state (R140, R141), and no
line changes but by its timers and the start order of the power-up. That ANALOG_SAMPLE and COOL_DOWN_END are one sample
each, and so agree at the end of a cool-down, is the model's reading (assumption 14), as are that a sample counts its
millisecond first (assumption 6) and the order of the events (assumption 10). -/
def Obligations.CoolDownLeavesShutdown : Prop :=
  (∀ (s : State) (c : SampleSet), live s → s.protection.thermal = .shutdown → s.protection.coolDown = 999 →
     max c.tb0.toNat c.tb1.toNat + s.limits.thermalHysteresis < s.limits.hot →
     c.tdie.toNat + s.limits.thermalHysteresis < s.limits.dieLimit →
     ∃ b t : State, exec (.coolDownEnd c) s = .next t ∧ exec (.analogSample c) s = .next t
       ∧ ShutdownLeft (sampled s c) b ∧ SupplyEvaluated b t ∧ Outside [.protection, .events, .accrued] b t)
  ∧ (∀ (s : State) (c : SampleSet) (y : Supply), live s → s.protection.thermal = .shutdown →
       let cool := max c.tb0.toNat c.tb1.toNat + s.limits.thermalHysteresis < s.limits.hot
         ∧ c.tdie.toNat + s.limits.thermalHysteresis < s.limits.dieLimit
       s.protection.coolDown < 999 ∨ ¬cool → supplyNext s.limits c.vled.toNat s.protection.supply = y →
       let kind : EventKind := match y with
         | .ok => .supplyOk
         | .low => .supplyLow
         | .uv => .supplyUv
       exec (.coolDownEnd c) s = .next s
       ∧ ∃ t, exec (.analogSample c) s = .next t ∧ t.ms = s.ms + 1
         ∧ t.protection
             = { s.protection with
                 codes := c
                 coolDown := if cool then s.protection.coolDown + 1 else 0
                 supply := y
                 uvLatch :=
                   s.protection.uvLatch
                     || decide (y ≠ s.protection.supply ∧ y = .uv ∧ s.limits.uvMode = .latched) }
         ∧ t.events
             = (if y = s.protection.supply then s.events else eventsAfter s.events (s.ms + 1) kind .none c.vled.toNat)
         ∧ flagsAdded s t
             (if y = s.protection.supply then [] else if y = .uv then .uvSeen :: overrun s else overrun s)
         ∧ t.scan = { s.scan with supervision := s.scan.supervision.tick }
         ∧ (∀ l : LineNo, t.lines[l] = lineAfterMs s.lines[l])
         ∧ Outside [.ms, .scan, .lines, .protection, .events, .accrued] s t)

/-- OVERCURRENT_SAMPLE that does not trip (R142): the filter count is 0 while a trip is unreleased, stays on a blanked
sample, rises on an asserted one and is 0 after a deasserted one. The microsecond is counted by the step timer, the
trip, the time since the latest LATCH end and the lines in WAIT_SLOT (assumption 6). -/
def Obligations.OvercurrentFilterCounts : Prop :=
  ∀ (s : State) (asserted : Bool), live s →
    let blanked := ∃ e, s.protection.sinceLatch = some e ∧ e < s.limits.blankUs
    (asserted = false ∨ s.protection.trip ≠ none ∨ blanked ∨ s.protection.filterCount + 1 < s.limits.ocFilter) →
    ∃ t, exec (.overcurrentSample asserted) s = .next t
      ∧ t.protection
          = { s.protection with
              stepTimer := s.protection.stepTimer.tick
              trip := s.protection.trip.map fun q => { q with elapsed := q.elapsed + 1 }
              sinceLatch := s.protection.sinceLatch.map (· + 1)
              filterCount := t.protection.filterCount }
      ∧ (s.protection.trip ≠ none → t.protection.filterCount = 0)
      ∧ (s.protection.trip = none → blanked → t.protection.filterCount = s.protection.filterCount)
      ∧ (s.protection.trip = none → ¬blanked →
          t.protection.filterCount = if asserted = true then s.protection.filterCount + 1 else 0)
      ∧ (∀ l : LineNo, t.lines[l] = lineAfterUs s.lines[l]) ∧ Outside [.protection, .lines] s t

/-- OC_TRIP, and the OVERCURRENT_SAMPLE at which the filter count reaches oc_filter (R142, R143): the trip is unreleased
with its mode fixed, MANUAL when three trips stand within 1,000 ms, OC_TRIP is set and added with the history's length,
the count is 0 and BL_OFF_N is low; the backlight, the line states, the ceiling and the cap are as they were, and of the
rest only the timers count their microsecond (assumption 6). TIMED_RELEASE (R143): 10,000 ticks after a TIMED trip it is
released with OC_RELEASED, and sampling resumes at 0; earlier, or for another mode, nothing happens. That OC_TRIP and
OVERCURRENT_SAMPLE are one sample each, and so agree at a trip, is the model's reading (assumption 14). -/
def Obligations.OvercurrentTripsAndReleases : Prop :=
  (∀ (s : State), live s → s.protection.trip = none →
     (∀ e, s.protection.sinceLatch = some e → s.limits.blankUs ≤ e) →
     s.limits.ocFilter ≤ s.protection.filterCount + 1 →
     let history := (s.protection.tripHistory ++ [s.ms]).drop (s.protection.tripHistory.length - 2)
     ∃ t, exec .ocTrip s = .next t ∧ exec (.overcurrentSample true) s = .next t
       ∧ t.protection
           = { s.protection with
               stepTimer := s.protection.stepTimer.tick
               sinceLatch := s.protection.sinceLatch.map (· + 1)
               trip :=
                 some
                   { mode :=
                       if history.length = 3 ∧ (s.ms - history.headD 0).toNat ≤ 1000 then .manual else s.limits.ocMode
                     elapsed := 0 }
               tripHistory := history
               filterCount := 0 }
       ∧ t.events = eventsAfter s.events s.ms .ocTrip .none history.length ∧ flagsAdded s t (.ocTrip :: overrun s)
       ∧ t.blanked = true ∧ t.ceiling = s.ceiling ∧ t.budgetCap = s.budgetCap
       ∧ (∀ l : LineNo, t.lines[l] = lineAfterUs s.lines[l]) ∧ Outside [.protection, .lines, .events, .accrued] s t)
  ∧ (∀ (s : State) (q : Trip), live s → s.protection.trip = some q →
       (q.mode = .timed → 10000 ≤ q.elapsed →
         ∃ t, exec .timedRelease s = .next t ∧ t.protection = { s.protection with trip := none, filterCount := 0 }
           ∧ t.events = eventsAfter s.events s.ms .ocReleased .none 2 ∧ flagsAdded s t (overrun s)
           ∧ Outside [.protection, .events, .accrued] s t)
       ∧ (q.mode ≠ .timed ∨ q.elapsed < 10000 → exec .timedRelease s = .next s))

/-- The duty ceiling (R145), the budget cap as the smallest of the values that apply (R146), BL_OFF_N (R144) and ALERT_N
(R169), as the states they come from give them. -/
def Obligations.DerivedFiguresOfProtection : Prop :=
  ∀ s : State,
    (s.protection.backlight = .poweringDown → s.ceiling = 0)
    ∧ (s.protection.backlight ≠ .poweringDown → s.protection.thermal = .hot → s.ceiling = s.limits.safeDuty)
    ∧ (s.protection.backlight ≠ .poweringDown → s.protection.thermal ≠ .hot → s.ceiling = 4095)
    ∧ s.ceiling ≤ 4095
    ∧ (s.tables.limitsState ≠ .valid → s.budgetCap = 21228480 ∧ s.limits.ocFilter = 4 ∧ s.limits.scanTimeout = 100)
    ∧ (s.protection.thermal = .normal → s.protection.supply = .ok → s.budgetCap = s.limits.budgetNormal)
    ∧ (s.protection.thermal ≠ .normal → s.protection.supply = .ok →
        s.budgetCap = min s.limits.budgetNormal s.limits.warmCap)
    ∧ (s.protection.thermal = .normal → s.protection.supply ≠ .ok →
        s.budgetCap = min s.limits.budgetNormal s.limits.supplyCap)
    ∧ (s.protection.thermal ≠ .normal → s.protection.supply ≠ .ok →
        s.budgetCap = min s.limits.budgetNormal (min s.limits.warmCap s.limits.supplyCap))
    ∧ (s.blanked = true ↔
        s.protection.backlight = .off ∨ s.protection.backlight = .thermalOff ∨ s.protection.backlight = .latchedOff
        ∨ s.protection.trip ≠ none ∨ s.protection.supply = .uv ∨ s.protection.uvLatch = true)
    ∧ (s.alerted = true ↔
        s.limits.criticalLevel ≤ s.events.length ∨ s.protection.backlight = .latchedOff
        ∨ (∃ l : LineNo, s.lines[l].state = .locked)
        ∨ ∃ q, s.protection.trip = some q ∧ q.mode = .manual)

/-- Each change of the duty ceiling is signalled to every RUNNING line (R145, R116): a line that is RUNNING before and
after a command that changed the ceiling has every channel below its driver count dirty, owes a LATCH and has not
latched it. Each change of the backlight state adds BACKLIGHT_STATE with the new state as detail (R130). The assertion
of RESET_N, which puts lines and events at their reset values, is no such command. -/
def Obligations.ChangesAreSignalled : Prop :=
  ∀ (c : Instr) (s t : State), c ≠ .resetAsserted → exec c s = .next t →
    (∀ l : LineNo, PowerInv s → TableInv s → t.ceiling ≠ s.ceiling → s.lines[l].state = .running →
      t.lines[l].state = .running →
      t.lines[l].dirty &&& channelsBelow (s.driverCount l) = channelsBelow (s.driverCount l)
      ∧ t.lines[l].latchOwed = true ∧ t.lines[l].ceilingLatched = false)
    ∧ (t.protection.backlight ≠ s.protection.backlight →
        ∃ e ∈ t.events, e.kind = .backlightState ∧ e.time = t.ms
          ∧ e.detail = BitVec.ofNat 16 (backlightCode t.protection.backlight))

/-! ### The commands of the control region (chapters 2 to 9) -/

/-- The checks of R153 for each command code: an unknown code is answered BAD_COMMAND with the code, a parameter length
above 112 or below the command's block BAD_PARAM with FFFFh, and neither does anything else. The status word write
(R154, section 10.3): one WRITE beat of requester 63 at slot base + 60h whose four enabled bytes are the status code,
the sequence and the detail, low byte first; the other lanes are free (assumption 3). -/
def Obligations.HeaderChecksAnswer : Prop :=
  (∀ (s : State) (snap : BitVec 1024), canBegin s snap →
     (commandCode snap = 0 ∨ 9 < commandCode snap →
       exec .badCommand s = .next (answered s snap [] (.badCommand, commandCode snap)))
     ∧ ∀ (c : Instr) (code block : Nat),
         (c, code, block)
           ∈ [(Instr.window, 1, 20), (.windowOff, 2, 4), (.setGrid, 3, 8), (.selectSet, 4, 4), (.backlightOn, 5, 4),
              (.backlightOff, 5, 4), (.loadTable, 6, 12), (.readStatus, 7, 4), (.readEvents, 8, 4),
              (.clearFaultLine, 9, 4), (.clearFaultZones, 9, 4), (.clearFaultProtection, 9, 4)] →
         commandCode snap = code → (112 < paramLength snap ∨ paramLength snap < block) →
         (c = .backlightOn → param snap 0 1 ≠ 0) → (c = .backlightOff → param snap 0 1 ≠ 1) →
         (c = .clearFaultLine → param snap 0 1 ≠ 2 ∧ param snap 0 1 ≠ 3) →
         (c = .clearFaultZones → param snap 0 1 ≠ 1 ∧ param snap 0 1 ≠ 3) →
         (c = .clearFaultProtection → param snap 0 1 ≠ 1 ∧ param snap 0 1 ≠ 2) →
         exec c s = .next (answered s snap [] (.badParam, 0xFFFF)))
  ∧ (∀ (address : Nat) (a : Answer) (sequence n : Nat), sequence < 256 → a.2 < 65536 →
       let q := statusWrite address (statusWord a sequence) n
       q.request.requester = 63 ∧ q.request.address = BitVec.ofNat 32 address ∧ isStatus q
       ∧ ∃ b : WriteBeat, q.request.body = .write [b]
           ∧ (∀ j, j < 32 → (b.enables.getLsbD j = true ↔ 24 ≤ j ∧ j < 28))
           ∧ (beatByte b.data 24).toNat = statusCode a.1 ∧ (beatByte b.data 25).toNat = sequence
           ∧ (beatByte b.data 26).toNat = a.2 % 256 ∧ (beatByte b.data 27).toNat = a.2 / 256)

/-- WINDOW that passes every check of R21 (R22): the record takes the command's values and is enabled, the buffer is
IDLE without a bank, a reference or a count, and the answer is DONE. WINDOW that fails a check of R21, one after another
in the order of the table: the answer is the one of the first check that fails, and nothing else changes. -/
def Obligations.WindowIsDescribedOrRefused : Prop :=
  (∀ (s : State) (snap : BitVec 1024) (w : WindowNo), canBegin s snap → headed snap 1 20 → param snap 0 1 = w.val →
     (s.buffers[w].state = .disabled ∨ s.buffers[w].state = .idle ∨ s.buffers[w].state.result ≠ none) →
     s.scan.pointer ≠ some w →
     let base := param snap 4 4
     let pitch := param snap 8 4
     let width := param snap 12 2
     let height := param snap 14 2
     base % 32 = 0 → 64 ≤ width → width ≤ 7680 → 64 ≤ height → height ≤ 4320 → pitch % 32 = 0 → 4 * width ≤ pitch →
     pitch ≤ 32768 → param snap 1 1 ≤ 1 → param snap 2 1 ≤ 1 → param snap 3 1 ≤ 1 → param snap 16 1 ≤ 63 →
     param snap 17 1 ≤ 63 → param snap 18 1 ≤ 63 → param snap 19 1 ≤ 63 → base + pitch * height ≤ 2 ^ 32 →
     8 * s.grid.columns ≤ width → 8 * s.grid.rows ≤ height →
     (base + pitch * height ≤ s.controlBase ∨ s.controlBase + 4096 ≤ base) →
     (∀ v : WindowNo, v ≠ w → s.windows[v].enable = true →
       base + pitch * height ≤ s.windows[v].base.toNat
       ∨ s.windows[v].base.toNat + s.windows[v].pitch * s.windows[v].height ≤ base) →
     exec .window s
       = .next
           (answered
             { s with
               windows := s.windows.set w
                 { enable := true, base := BitVec.ofNat 32 base, pitch := pitch, width := width, height := height
                   format := if param snap 1 1 = 1 then .rgb8 else .rgb10
                   writerMatch := BitVec.ofNat 6 (param snap 16 1), writerMask := BitVec.ofNat 6 (param snap 17 1)
                   scanMatch := BitVec.ofNat 6 (param snap 18 1), scanMask := BitVec.ofNat 6 (param snap 19 1)
                   compensation := param snap 2 1 == 1, hueClip := param snap 3 1 == 1 }
               buffers := s.buffers.set w { state := .idle, written := 0 } }
             snap [] (.done, 0)))
  ∧ (∀ (s : State) (snap : BitVec 1024), canBegin s snap → headed snap 1 20 →
       (3 < param snap 0 1 → exec .window s = .next (answered s snap [] (.badParam, 1)))
       ∧ ∀ w : WindowNo, param snap 0 1 = w.val →
           let base := param snap 4 4
           let pitch := param snap 8 4
           let width := param snap 12 2
           let height := param snap 14 2
           let checks : List (Prop × Answer) :=
             [(¬(s.buffers[w].state = .blind ∨ s.buffers[w].state.bank ≠ none), (.busy, 0)),
              (s.scan.pointer ≠ some w, (.busy, 1)), (base % 32 = 0, (.badParam, 2)), (64 ≤ width ∧ width ≤ 7680, (.badParam, 3)),
              (64 ≤ height ∧ height ≤ 4320, (.badParam, 4)),
              (pitch % 32 = 0 ∧ 4 * width ≤ pitch ∧ pitch ≤ 32768, (.badParam, 5)),
              (param snap 1 1 ≤ 1 ∧ param snap 2 1 ≤ 1 ∧ param snap 3 1 ≤ 1 ∧ param snap 16 1 ≤ 63 ∧ param snap 17 1 ≤ 63
                 ∧ param snap 18 1 ≤ 63 ∧ param snap 19 1 ≤ 63, (.badParam, 6)),
              (base + pitch * height ≤ 2 ^ 32, (.badParam, 7)),
              (8 * s.grid.columns ≤ width ∧ 8 * s.grid.rows ≤ height, (.badParam, 8)),
              (base + pitch * height ≤ s.controlBase ∨ s.controlBase + 4096 ≤ base, (.badParam, 9))]
           (∀ before p a after, checks = before ++ (p, a) :: after → (∀ q ∈ before, q.1) → ¬p →
             exec .window s = .next (answered s snap [] a))
           ∧ ∀ v : WindowNo, (∀ q ∈ checks, q.1) → v ≠ w → s.windows[v].enable = true →
               (∀ u : WindowNo, u ≠ w → s.windows[u].enable = true →
                 (max base s.windows[u].base.toNat
                   < min (base + pitch * height) (s.windows[u].base.toNat + s.windows[u].pitch * s.windows[u].height)) →
                 v ≤ u) →
               max base s.windows[v].base.toNat
                 < min (base + pitch * height) (s.windows[v].base.toNat + s.windows[v].pitch * s.windows[v].height) →
               exec .window s = .next (answered s snap [] (.badParam, 16 + v.val)))

/-- WINDOW_OFF (R23, R40): what the buffer held is discarded, a scan of the window ends without its remaining rows, the
window's enable is off with its other fields kept, the buffer is DISABLED, no flag is set and the supervision timer runs
on; a DISABLED buffer and a window number above 3 change nothing. -/
def Obligations.WindowIsTurnedOff : Prop :=
  ∀ (s : State) (snap : BitVec 1024), canBegin s snap → headed snap 2 4 →
    (3 < param snap 0 1 → exec .windowOff s = .next (answered s snap [] (.badParam, 1)))
    ∧ ∀ w : WindowNo, param snap 0 1 = w.val →
        (s.buffers[w].state = .disabled → exec .windowOff s = .next (answered s snap [] (.done, 0)))
        ∧ (s.buffers[w].state ≠ .disabled →
            exec .windowOff s
              = .next
                  (answered
                    { s with
                      windows := s.windows.set w { s.windows[w] with enable := false }
                      buffers := s.buffers.set w { state := .disabled, written := 0 }
                      queue :=
                        match s.buffers[w].state with
                        | .queued _ => s.queue.filter (· ≠ w)
                        | _ => s.queue
                      engine :=
                        match s.buffers[w].state with
                        | .analysing _ => { s.engine with analysis := none }
                        | _ => s.engine
                      banks :=
                        match s.buffers[w].state.bank with
                        | some b => s.banks.set b { s.banks[b] with zones := ZoneTable.empty }
                        | none => s.banks
                      scan :=
                        if s.scan.pointer = some w then
                          { s.scan with pointer := none, result := none, progress := 0, passed := 0, committed := 0 }
                        else s.scan }
                    snap [] (.done, 0)))

/-- SET_GRID accepted (R42, R43, R158): the grid is replaced, banks, History Table, Zone Drive Table, Zone Fault Map and
suspect marks are cleared, no analysis or scan holds a slot, the scan state is as after RESET_N, ZONE_MAP and
CALIBRATION are INVALID with their reset contents, and sets, limits, lines and accrued flags stay. SET_GRID refused, in
the order of R42: an enabled window STATE 1, a backlight that is not OFF STATE 2, columns, rows, their product and lead
lines BAD_PARAM 1 to 4; nothing else changes. -/
def Obligations.GridIsReplacedOrRefused : Prop :=
  (∀ (s : State) (snap : BitVec 1024), canBegin s snap → headed snap 3 8 →
     (∀ w : WindowNo, s.buffers[w].state = .disabled) → s.protection.backlight = .off →
     1 ≤ param snap 0 2 → param snap 0 2 ≤ 96 → 1 ≤ param snap 2 2 → param snap 2 2 ≤ 54 → param snap 4 2 ≤ 1023 →
     exec .setGrid s
       = .next
           (answered
             { s with
               grid := { columns := param snap 0 2, rows := param snap 2 2, leadLines := param snap 4 2 }
               banks := s.banks.map fun b => { b with zones := ZoneTable.empty }
               engine := { s.engine with analysis := none }
               history := { valid := false, mean := 0, zones := ZoneTable.empty }
               drive := ZoneTable.empty
               scan :=
                 { pointer := none, result := none, progress := 0, passed := 0, committed := 0, fallback := .normal,
                   supervision := .stopped }
               faults := { openMarks := 0, shortMarks := 0 }
               lines := s.lines.map fun x => { x with openSuspect := 0, shortSuspect := 0 }
               tables :=
                 { s.tables with
                   zoneMapState := .invalid, calibrationState := .invalid, zoneMap := ZoneTable.empty,
                   calibration := ZoneTable.empty } }
             snap [] (.done, 0)))
  ∧ (∀ (s : State) (snap : BitVec 1024), canBegin s snap → headed snap 3 8 →
       let checks : List (Prop × Answer) :=
         [(∀ w : WindowNo, s.buffers[w].state = .disabled, (.state, 1)), (s.protection.backlight = .off, (.state, 2)),
          (1 ≤ param snap 0 2 ∧ param snap 0 2 ≤ 96, (.badParam, 1)), (1 ≤ param snap 2 2 ∧ param snap 2 2 ≤ 54, (.badParam, 2)),
          (param snap 0 2 * param snap 2 2 ≤ 5184, (.badParam, 3)), (param snap 4 2 ≤ 1023, (.badParam, 4))]
       ∀ before p a after, checks = before ++ (p, a) :: after → (∀ q ∈ before, q.1) → ¬p →
         exec .setGrid s = .next (answered s snap [] a))

/-- SELECT_SET (R74): set A or B is selected and answered DONE, any other value is answered BAD_PARAM 1 and selects
nothing. -/
def Obligations.SetIsSelected : Prop :=
  ∀ (s : State) (snap : BitVec 1024), canBegin s snap → headed snap 4 4 →
    (param snap 0 1 = 0 →
      exec .selectSet s = .next (answered { s with engine := { s.engine with selected := .a } } snap [] (.done, 0)))
    ∧ (param snap 0 1 = 1 →
        exec .selectSet s = .next (answered { s with engine := { s.engine with selected := .b } } snap [] (.done, 0)))
    ∧ (2 ≤ param snap 0 1 → exec .selectSet s = .next (answered s snap [] (.badParam, 1)))

/-- BACKLIGHT(ON) in OFF with its five checks passed (R131, R133, R119): the target is ON and a power-up begins; the
lowest-numbered used line gets its start order at once and the others make the list, or the backlight is ON at once where
no line is used. BACKLIGHT(ON) where no power-up begins (R131): the table by backlight state, the checks of OFF in their
order, and a parameter that names neither ON nor OFF, which both BACKLIGHT rows answer (the model's reading, assumption
8). -/
def Obligations.BacklightOnIsAnswered : Prop :=
  (∀ (s : State) (snap : BitVec 1024), canBegin s snap → headed snap 5 4 →
     param snap 0 1 = 1 → s.protection.backlight = .off → s.protection.thermal ≠ .shutdown →
     s.tables.zoneMapState = .valid → s.tables.lineSetupState = .valid → s.tables.limitsState = .valid →
     (∀ z c, z < s.grid.zones → s.zoneChannel z = some c → c.position.val < s.driverCount c.line) →
     ∃ t, exec .backlightOn s = .next t
       ∧ PowerUpBegun { s with protection := { s.protection with target := true } } t
       ∧ t.ring = (answered s snap [] (.done, 0)).ring
       ∧ Outside [.protection, .lines, .events, .accrued, .ring, .freeCount] s t)
  ∧ (∀ (s : State) (snap : BitVec 1024), canBegin s snap → headed snap 5 4 →
       (2 ≤ param snap 0 1 →
         exec .backlightOn s = .next (answered s snap [] (.badParam, 7))
         ∧ exec .backlightOff s = .next (answered s snap [] (.badParam, 7)))
       ∧ (param snap 0 1 = 1 →
           (s.protection.backlight = .poweringUp ∨ s.protection.backlight = .on →
             exec .backlightOn s
               = .next (answered { s with protection := { s.protection with target := true } } snap [] (.done, 0)))
           ∧ (s.protection.backlight = .poweringDown → exec .backlightOn s = .next (answered s snap [] (.busy, 0)))
           ∧ (s.protection.backlight = .thermalOff → s.protection.target = true →
               exec .backlightOn s = .next (answered s snap [] (.done, 0)))
           ∧ (s.protection.backlight = .thermalOff → s.protection.target = false →
               exec .backlightOn s = .next (answered s snap [] (.state, 1)))
           ∧ (s.protection.backlight = .latchedOff → exec .backlightOn s = .next (answered s snap [] (.state, 6)))
           ∧ (s.protection.backlight = .off →
               let checks : List (Prop × Nat) :=
                 [(s.protection.thermal ≠ .shutdown, 1), (s.tables.zoneMapState = .valid, 2),
                  (s.tables.lineSetupState = .valid, 3), (s.tables.limitsState = .valid, 4),
                  (∀ z c, z < s.grid.zones → s.zoneChannel z = some c → c.position.val < s.driverCount c.line, 5)]
               ∀ before p d after, checks = before ++ (p, d) :: after → (∀ q ∈ before, q.1) → ¬p →
                 exec .backlightOn s = .next (answered s snap [] (.state, d)))))

/-- BACKLIGHT(OFF) in ON or POWERING_UP (R132, R134, R135, R116): the target is OFF, the state POWERING_DOWN with its
event and draining, the step timer STOPPED (the model's choice, assumption 25); with a ceiling above 0 each RUNNING line
keeps its enable with every channel dirty, a LATCH owed and ceiling latched no, and with a ceiling of 0 it stays as it is;
other lines are stopped; then the power-down is tested, which ends it where no line is RUNNING and begins to drop where
every RUNNING line has latched; and the command is answered at the start. BACKLIGHT(OFF) in the states where no power-down
begins (R132): the target is OFF, and THERMAL_OFF becomes OFF. -/
def Obligations.BacklightOffIsAnswered : Prop :=
  (∀ (s : State) (snap : BitVec 1024), canBegin s snap → headed snap 5 4 → param snap 0 1 = 0 →
     (s.protection.backlight = .on ∨ s.protection.backlight = .poweringUp) →
     ∃ a t, exec .backlightOff s = .next t
       ∧ a.protection
           = { s.protection with backlight := .poweringDown, target := false, sequencer := .draining, stepTimer := .stopped }
       ∧ (∀ l : LineNo,
           a.lines[l]
             = if s.lines[l].state = .running then
                 (if s.ceiling = 0 then s.lines[l] else markedLine (s.driverCount l) s.lines[l])
               else if s.lines[l].state = .off ∨ s.lines[l].state = .locked then s.lines[l]
               else stoppedLine s.lines[l])
       ∧ a.events = eventsAfter s.events s.ms .backlightState .none 3 ∧ flagsAdded s a (overrun s)
       ∧ Outside [.protection, .lines, .events, .accrued, .ring, .freeCount] s a
       ∧ PowerDownTested a t ∧ t.ring = (answered s snap [] (.done, 0)).ring
       ∧ Outside [.protection, .lines, .events, .accrued, .ring, .freeCount] s t
       ∧ (s.ceiling ≠ 0 → (∃ l : LineNo, s.lines[l].state = .running) →
           t.protection = a.protection ∧ t.lines = a.lines ∧ t.events = a.events ∧ t.ceiling = 0))
  ∧ (∀ (s : State) (snap : BitVec 1024), canBegin s snap → headed snap 5 4 → param snap 0 1 = 0 →
       (s.protection.backlight = .off ∨ s.protection.backlight = .poweringDown ∨ s.protection.backlight = .latchedOff →
         exec .backlightOff s
           = .next (answered { s with protection := { s.protection with target := false } } snap [] (.done, 0)))
       ∧ (s.protection.backlight = .thermalOff →
           ∃ t, exec .backlightOff s = .next t
             ∧ t.protection = { s.protection with target := false, backlight := .off }
             ∧ t.events = eventsAfter s.events s.ms .backlightState .none 0 ∧ flagsAdded s t (overrun s)
             ∧ t.ring = (answered s snap [] (.done, 0)).ring
             ∧ Outside [.protection, .events, .accrued, .ring, .freeCount] s t))

/-- CLEAR_FAULT for a line (R124, R157): history and failures are emptied; a LOCKED line becomes OFF, and gets a start
order when the backlight is ON or POWERING_UP and it has drivers; a line number above 15 and an unknown kind change
nothing. That all three CLEAR_FAULT rows answer an unknown kind is the model's reading (assumption 8). -/
def Obligations.LineFaultIsCleared : Prop :=
  ∀ (s : State) (snap : BitVec 1024), canBegin s snap → headed snap 9 4 →
    (param snap 0 1 = 0 ∨ 3 < param snap 0 1 →
      exec .clearFaultLine s = .next (answered s snap [] (.badParam, 2))
      ∧ exec .clearFaultZones s = .next (answered s snap [] (.badParam, 2))
      ∧ exec .clearFaultProtection s = .next (answered s snap [] (.badParam, 2)))
    ∧ (param snap 0 1 = 1 → 15 < param snap 1 1 → exec .clearFaultLine s = .next (answered s snap [] (.badParam, 1)))
    ∧ ∀ l : LineNo, param snap 0 1 = 1 → param snap 1 1 = l.val →
        let x := { s.lines[l] with history := [], failures := 0 }
        exec .clearFaultLine s
          = .next
              (answered
                { s with
                  lines := s.lines.set l
                    (if s.lines[l].state = .locked then
                      if (s.protection.backlight = .on ∨ s.protection.backlight = .poweringUp) ∧ 0 < s.driverCount l then
                        startedLine s.limits.slotUs x
                      else { x with state := .off }
                    else x) }
                snap [] (.done, 0))

/-- CLEAR_FAULT for zones (R129): every mark of the Zone Fault Map and every suspect mark is cleared, and every STARTING
or RUNNING line owes a SETUP. -/
def Obligations.ZoneFaultsAreCleared : Prop :=
  ∀ (s : State) (snap : BitVec 1024), canBegin s snap → headed snap 9 4 → param snap 0 1 = 2 →
    exec .clearFaultZones s
      = .next
          (answered
            { s with
              faults := { openMarks := 0, shortMarks := 0 }
              lines := s.lines.map fun x =>
                { x with
                  openSuspect := 0
                  shortSuspect := 0
                  setupOwed := x.setupOwed || decide (x.state = .starting ∨ x.state = .running) } }
            snap [] (.done, 0))

/-- CLEAR_FAULT for protection (R143, R147): from LATCHED_OFF the shutdown history is emptied, and the state becomes OFF with
the target OFF, THERMAL_OFF with the target ON in SHUTDOWN, and with the target ON outside SHUTDOWN a power-up begins where
ZONE_MAP, LINE_SETUP and LIMITS are VALID, and the state and the target become OFF where they are not. An unreleased trip of
any mode is released with OC_RELEASED, and a UV latch outside UV is cleared; the detail is the sum of the values of what
applied. The order of the events is assumption 10. -/
def Obligations.ProtectionIsCleared : Prop :=
  ∀ (s : State) (snap : BitVec 1024), canBegin s snap → headed snap 9 4 → param snap 0 1 = 3 →
    let latched := s.protection.backlight = .latchedOff
    let valid := s.tables.zoneMapState = .valid ∧ s.tables.lineSetupState = .valid ∧ s.tables.limitsState = .valid
    let clears := s.protection.uvLatch = true ∧ s.protection.supply ≠ .uv
    let emptied := { s.protection with shutdownHistory := [] }
    let settles := fun (b : State) (p : Protection) (code : Nat) =>
      b.protection = p ∧ b.lines = s.lines ∧ b.events = eventsAfter s.events s.ms .backlightState .none code
      ∧ flagsAdded s b (overrun s)
    ∃ b t, exec .clearFaultProtection s = .next t
      ∧ (¬latched → b = s)
      ∧ (latched → s.protection.target = false → settles b { emptied with backlight := .off } 0)
      ∧ (latched → s.protection.target = true → s.protection.thermal = .shutdown →
          settles b { emptied with backlight := .thermalOff } 4)
      ∧ (latched → s.protection.target = true → s.protection.thermal ≠ .shutdown → valid →
          PowerUpBegun { s with protection := emptied } b)
      ∧ (latched → s.protection.target = true → s.protection.thermal ≠ .shutdown → ¬valid →
          settles b { emptied with backlight := .off, target := false } 0)
      ∧ t.protection
          = { b.protection with
              trip := none
              filterCount := if s.protection.trip = none then s.protection.filterCount else 0
              uvLatch := s.protection.uvLatch && !decide clears }
      ∧ t.lines = b.lines
      ∧ t.events
          = (match s.protection.trip with
              | some q => eventsAfter b.events s.ms .ocReleased .none (releaseCode q.mode)
              | none => b.events)
      ∧ flagsAdded b t (if s.protection.trip = none then [] else overrun b)
      ∧ t.ring
          = (answered s snap []
              (.done, (if latched then 1 else 0) + (if s.protection.trip = none then 0 else 2) + (if clears then 4 else 0))).ring
      ∧ Outside [.protection, .lines, .events, .accrued, .ring, .freeCount] s t

/-! ### Tables and reports (chapter 9) -/

/-- LOAD_TABLE that passes R159: the ring holds a load that waits to begin, with the count clamped to the table end, and
the table is unchanged (R159, R160). LOAD_TABLE refused, in the order of R159, with nothing else changed. -/
def Obligations.LoadIsAcceptedOrRefused : Prop :=
  (∀ (s : State) (snap : BitVec 1024) (id : TableId), canBegin s snap → headed snap 6 12 →
     tableOfCode (param snap 0 1) = some id →
     (id = .zoneMap ∨ id = .lineSetup → s.protection.backlight = .off) →
     let offset := param snap 4 2
     let clamps := tableIsArray id = true ∧ s.tableEnd id < offset + param snap 6 2
     let count := if clamps then s.tableEnd id - offset else param snap 6 2
     (if tableIsArray id then 1 ≤ param snap 6 2 ∧ offset < s.tableEnd id else offset = 0 ∧ param snap 6 2 = 1) →
     param snap 8 4 % 32 = 0 → param snap 8 4 + count * entrySize id ≤ 2 ^ 32 →
     exec .loadTable s
       = .next
           { s with
             ring :=
               { begun s snap with
                 executing :=
                   some
                     { snapshot := snap
                       offers := []
                       load :=
                         some
                           { table := id, offset := offset, count := count, clamped := decide clamps
                             source := BitVec.ofNat 32 (param snap 8 4), crc := BitVec.ofNat 16 (param snap 2 2)
                             phase := .waiting } } } })
  ∧ (∀ (s : State) (snap : BitVec 1024), canBegin s snap → headed snap 6 12 →
       (tableOfCode (param snap 0 1) = none → exec .loadTable s = .next (answered s snap [] (.badParam, 1)))
       ∧ ∀ id, tableOfCode (param snap 0 1) = some id →
           let offset := param snap 4 2
           let count :=
             if tableIsArray id = true ∧ s.tableEnd id < offset + param snap 6 2 then s.tableEnd id - offset
             else param snap 6 2
           let checks : List (Prop × Answer) :=
             [((id = .zoneMap ∨ id = .lineSetup → s.protection.backlight = .off), (.state, 1)),
              ((tableIsArray id = false → offset = 0 ∧ param snap 6 2 = 1), (.badParam, 2)),
              ((tableIsArray id = true → 1 ≤ param snap 6 2), (.badParam, 3)),
              ((tableIsArray id = true → offset < s.tableEnd id), (.badParam, 4)),
              (param snap 8 4 % 32 = 0, (.badParam, 5)), (param snap 8 4 + count * entrySize id ≤ 2 ^ 32, (.badParam, 6))]
           ∀ before p a after, checks = before ++ (p, a) :: after → (∀ q ∈ before, q.1) → ¬p →
             exec .loadTable s = .next (answered s snap [] a))

/-- TABLE_LOAD_BEGIN (R160, R161): with the downstream link UP, and the engine IDLE for a table that analyses read, the
table becomes LOADING and its fetch is formed: reads of requester 63 in ascending order, 8 beats each but the last, with
all the beats of the load; the contents of every table stay as they are, and a duty ceiling that a LOADING LIMITS moves
marks every RUNNING line (R145); otherwise the load waits with its table unchanged. -/
def Obligations.LoadBeginsItsFetch : Prop :=
  ∀ (s : State) (c : Command) (l : Load), live s → s.ring.executing = some c → c.load = some l → l.phase = .waiting →
    (s.link.downstream = .down ∨ (l.table ≠ .lineSetup ∧ s.engine.analysis ≠ none) →
      exec .tableLoadBegin s = .next s)
    ∧ (s.link.downstream = .up → l.table = .lineSetup ∨ s.engine.analysis = none → 1 ≤ l.count →
        ∃ (t : State) (reads : List Injected), exec .tableLoadBegin s = .next t ∧ t.tables.stateOf l.table = .loading
          ∧ (∀ id, id ≠ l.table → t.tables.stateOf id = s.tables.stateOf id)
          ∧ t.tables.zoneMap = s.tables.zoneMap ∧ t.tables.calibration = s.tables.calibration
          ∧ t.tables.lineSetup = s.tables.lineSetup ∧ t.tables.setA = s.tables.setA ∧ t.tables.setB = s.tables.setB
          ∧ t.tables.limits = s.tables.limits
          ∧ (∀ m : LineNo,
              t.lines[m]
                = if t.ceiling ≠ s.ceiling ∧ s.lines[m].state = .running then markedLine (s.driverCount m) s.lines[m]
                  else s.lines[m])
          ∧ t.ring
              = { s.ring with
                  executing := some { c with offers := reads, load := some { l with phase := .fetching 0 0xFFFF#16 0 } } }
          ∧ (reads.map fun q => q.request.beatCount).sum = (l.count * entrySize l.table + 31) / 32
          ∧ (∀ i q, reads[i]? = some q →
              q.request.requester = 63 ∧ q.request.isRead = true ∧ q.purpose = .fetch l.table
              ∧ q.request.address = l.source + BitVec.ofNat 32 (256 * i)
              ∧ (i + 1 < reads.length → q.request.beatCount = 8) ∧ 1 ≤ q.request.beatCount ∧ q.request.beatCount ≤ 8)
          ∧ Outside [.tables, .lines, .ring] s t)

/-- RETURN_BEAT_RECEIVED for the fetch of a table, before its last beat (R12, R14, R161): the beat's 32 bytes enter the
CRC-16, nothing goes upstream, and every table state stays. RETURN_BEAT_RECEIVED for the last beat of a fetch (R162, R163):
a CRC-16 that does not match makes the table INVALID with TABLE_INVALID and the answer CRC_FAIL; a ZONE_MAP with a failing
entry, BAD_TABLE with the lowest; otherwise the table is VALID and the answer DONE, or CLAMPED, with the count used. With
either beat the entries that it completes enter the table at their places, its bytes enter SET_A or SET_B as they arrive
(assumption 12), LIMITS takes its 64 bytes with the second, and all other contents stay (R73, R161). -/
def Obligations.FetchFillsTheTable : Prop :=
  (∀ (s : State) (e : Tracked) (rest : List Tracked) (c : Command) (l : Load) (b : Nat) (crc : BitVec 16) (kept data : Beat),
     live s → s.link.downstream = .up → s.link.tracking = e :: rest → e.origin = .injected (.fetch l.table) →
     s.ring.executing = some c → c.load = some l → l.phase = .fetching b crc kept →
     32 * (b + 1) < l.count * entrySize l.table →
     ∃ t, exec (.returnBeatReceived data) s = .next t
       ∧ t.link
           = { s.link with
               tracking := if e.received + 1 < e.beatCount then { e with received := e.received + 1 } :: rest else rest }
       ∧ t.ring
           = { s.ring with
               executing :=
                 some
                   { c with
                     load := some { l with phase := .fetching (b + 1) (crc16Bytes crc (beatBytes data 32)) data } } }
       ∧ BeatStored s t l b kept data
       ∧ (∀ id, t.tables.stateOf id = s.tables.stateOf id) ∧ Outside [.link, .ring, .tables] s t)
  ∧ (∀ (s : State) (e : Tracked) (rest : List Tracked) (c : Command) (l : Load) (b : Nat) (crc : BitVec 16) (kept data : Beat),
       live s → s.link.downstream = .up → s.link.tracking = e :: rest → e.origin = .injected (.fetch l.table) →
       s.ring.executing = some c → c.load = some l → l.phase = .fetching b crc kept →
       l.count * entrySize l.table ≤ 32 * (b + 1) →
       let sum := crc16Bytes crc (beatBytes data (l.count * entrySize l.table - 32 * b))
       let ends := fun (t : State) (x : TableState) (a : Answer) =>
         t.tables.stateOf l.table = x
         ∧ t.ring
             = { s.ring with
                 executing :=
                   some
                     { c with
                       offers :=
                         [statusWrite (s.controlBase + 128 * s.ring.index.val + 0x60)
                           (statusWord a (sequenceOf c.snapshot)) s.freeCount]
                       load := none } }
         ∧ t.events
             = (if x = .valid then s.events
               else eventsAfter s.events s.ms .tableInvalid (.table l.table) (statusCode a.1))
       ∃ t, exec (.returnBeatReceived data) s = .next t ∧ t.freeCount = s.freeCount + 1
         ∧ t.link
             = { s.link with
                 tracking := if e.received + 1 < e.beatCount then { e with received := e.received + 1 } :: rest else rest }
         ∧ BeatStored s t l b kept data
         ∧ (∀ id, id ≠ l.table → t.tables.stateOf id = s.tables.stateOf id)
         ∧ (sum ≠ l.crc → ends t .invalid (.crcFail, sum.toNat))
         ∧ (sum = l.crc → l.table ≠ .zoneMap → ends t .valid (if l.clamped then .clamped else .done, l.count))
         ∧ (sum = l.crc → l.table = .zoneMap →
             (∀ z, z < s.grid.zones → entryFails t.tables.zoneMap z = true →
               (∀ y, y < z → entryFails t.tables.zoneMap y = false) → ends t .invalid (.badTable, z))
             ∧ ((∀ z, z < s.grid.zones → entryFails t.tables.zoneMap z = false) →
                 ends t .valid (if l.clamped then .clamped else .done, l.count)))
         ∧ Outside [.link, .tables, .lines, .events, .accrued, .ring, .freeCount] s t)

/-- READ_STATUS (R166): the status block as it stands is written in one WRITE of 8 beats with every byte enabled at
C00h, then, with clear 1, every accrued flag is cleared; a clear above 1 is answered BAD_PARAM 1. Every field of section
10.6 stands at its offset, low byte first; the fields of the scan result are 0 when there is none, and every byte that the
table gives to no field is 0. -/
def Obligations.StatusIsReported : Prop :=
  ∀ (s : State) (snap : BitVec 1024), canBegin s snap → headed snap 7 4 →
    (1 < param snap 0 1 → exec .readStatus s = .next (answered s snap [] (.badParam, 1)))
    ∧ (param snap 0 1 ≤ 1 →
        let p := s.protection
        let flag := fun b : Bool => if b then 1 else 0
        let r := s.scan.result.map fun k => s.results[k]
        let scanned := fun f : Result → Nat => (r.map f).getD 0
        let marked := ((List.range s.grid.zones).filter fun z =>
          s.faults.openMarks.getLsbD z || s.faults.shortMarks.getLsbD z).length
        let fields : List (Nat × Nat × Nat) :=
          [(0x00, 4, s.accrued.toNat), (0x04, 4, s.ms.toNat), (0x08, 1, backlightCode p.backlight),
           (0x09, 1, flag p.target), (0x0A, 1, sequencerCode p.sequencer), (0x0B, 1, thermalCode p.thermal),
           (0x0C, 1, supplyCode p.supply), (0x0D, 1, flag p.uvLatch), (0x0E, 1, flag p.trip.isSome),
           (0x0F, 1, (p.trip.map fun q => releaseCode q.mode).getD 0), (0x10, 2, s.ceiling),
           (0x12, 1, s.events.length), (0x13, 1, s.ring.index.val), (0x14, 4, s.budgetCap),
           (0x28, 1, tableStateCode s.tables.zoneMapState), (0x29, 1, tableStateCode s.tables.calibrationState),
           (0x2A, 1, tableStateCode s.tables.lineSetupState), (0x2B, 1, tableStateCode s.tables.setAState),
           (0x2C, 1, tableStateCode s.tables.setBState), (0x2D, 1, tableStateCode s.tables.limitsState),
           (0x2E, 1, setCode s.engine.selected), (0x2F, 1, fallbackCode s.scan.fallback), (0x30, 2, s.grid.columns),
           (0x32, 2, s.grid.rows), (0x34, 2, s.grid.leadLines),
           (0x36, 1, (s.scan.pointer.map fun w => w.val).getD 0xFF), (0x37, 1, flag r.isSome),
           (0x38, 2, scanned fun x => x.tag.toNat), (0x3A, 2, scanned fun x => x.mean),
           (0x3C, 4, scanned fun x => x.total), (0x40, 4, scanned fun x => x.cap), (0x44, 4, scanned fun x => x.scale),
           (0x48, 2, marked), (0x4C, 2, p.codes.vled.toNat), (0x4E, 2, p.codes.tb0.toNat),
           (0x50, 2, p.codes.tb1.toNat), (0x52, 2, p.codes.tdie.toNat),
           (0x54, 1, scanned fun x => setUsedCode x.setUsed), (0x55, 1, scanned fun x => x.window.val),
           (0x56, 2, scanned fun x => x.darkZones),
           (0x58, 1, scanned fun x => flag x.budgetLimited + 2 * flag x.boostLimited)]
          ++ (List.finRange 16).map fun l => (0x18 + l.val, 1, lineStateCode s.lines[l].state)
        ∃ (q : Injected) (beats : List WriteBeat),
          exec .readStatus s
            = .next
                (answered { s with accrued := if param snap 0 1 = 1 then 0 else s.accrued } snap [q] (.done, 0))
          ∧ q.purpose = .data ∧ q.request.requester = 63
          ∧ q.request.address = BitVec.ofNat 32 (s.controlBase + 0xC00) ∧ q.request.body = .write beats ∧ beats.length = 8
          ∧ (∀ b ∈ beats, b.enables = BitVec.allOnes 32)
          ∧ let byte := fun i => (beats[i / 32]?.map fun b => (beatByte b.data (i % 32)).toNat).getD 0
            (∀ offset size value, (offset, size, value) ∈ fields →
              ∀ i, i < size → byte (offset + i) = value / 256 ^ i % 256)
            ∧ ∀ i, i < 256 → (∀ offset size value, (offset, size, value) ∈ fields → i < offset ∨ offset + size ≤ i) →
                byte i = 0)

/-- READ_EVENTS (R168): the oldest records, at most the count asked for and at most 32, leave the queue and are written
from 800h upward, in the layout of section 10.7, in WRITEs of up to 8 beats with byte enables for those records only, and
the answer is DONE, or CLAMPED above 32, with their number; a count of 0 is answered BAD_PARAM 1. An empty queue is
answered DONE with detail 0 whatever the count: R168 says so last, and the model lets that sentence decide where the count
is above 32 (assumption 23). -/
def Obligations.EventsAreReported : Prop :=
  ∀ (s : State) (snap : BitVec 1024), canBegin s snap → headed snap 8 4 →
    (param snap 0 2 = 0 → exec .readEvents s = .next (answered s snap [] (.badParam, 1)))
    ∧ (1 ≤ param snap 0 2 →
        let k := min (min (param snap 0 2) 32) s.events.length
        ∃ writes : List Injected,
          exec .readEvents s
            = .next
                (answered { s with events := s.events.drop k, freeCount := s.freeCount + 1 } snap writes
                  (if 32 < param snap 0 2 ∧ s.events ≠ [] then .clamped else .done, k))
          ∧ (writes.map fun q => q.request.beatCount).sum = (k + 1) / 2
          ∧ (∀ i q, writes[i]? = some q →
              q.purpose = .data ∧ q.request.requester = 63 ∧ q.request.isRead = false
              ∧ q.request.address = BitVec.ofNat 32 (s.controlBase + 0x800 + 256 * i)
              ∧ (i + 1 < writes.length → q.request.beatCount = 8) ∧ q.request.beatCount ≤ 8)
          ∧ (∀ i q beats m b, writes[i]? = some q → q.request.body = .write beats → beats[m]? = some b →
              ∀ x, x < 32 → b.enables.getLsbD x = decide (32 * (8 * i + m) + x < 16 * k))
          ∧ ∀ j e, j < k → s.events[j]? = some e →
              ∃ q beats b, writes[j / 16]? = some q ∧ q.request.body = .write beats ∧ beats[j % 16 / 2]? = some b
                ∧ RecordLaid e (b.data.extractLsb' (128 * (j % 2)) 128))

/-! ### Invariants that every step keeps -/

/-- The depths of the queues (R2, R8 to R11, R167): every step keeps the bounds of the Link Path, with credits and
occupancy adding up to 16 while the upstream link is UP, and at most 32 event records. -/
def Obligations.QueueBoundsAreKept : Prop :=
  ∀ s t : State, step s = .next t →
    (LinkInv s.link → LinkInv t.link) ∧ (s.events.length ≤ 32 → t.events.length ≤ 32)

/-- The law of R106 with what makes it hold: in OFF, THERMAL_OFF and LATCHED_OFF no line is enabled and the sequencer is
IDLE, a power-up or a power-down holds the sequencer, and a frame is in flight on a STARTING or RUNNING line only. -/
def Obligations.PowerInvariantIsKept : Prop := ∀ s t : State, PowerInv s → step s = .next t → PowerInv t

/-- Every duty and every gain of the Zone Drive Table and of every result record stays in its range (R67, R72, R79). At
RESET_ASSERTED this rests on the records the model gives to slots that no analysis has written (assumption 5). -/
def Obligations.LevelsStayInRange : Prop := ∀ s t : State, LevelInv s → step s = .next t → LevelInv t

/-- Windows, buffer records, banks, analysis queue, engine, result slots and scan stay in agreement (section 2.1, R27,
R36, R53, R76, R81). -/
def Obligations.BuffersAndScanAgree : Prop :=
  ∀ s t : State, BufferInv s → ScanInv s → step s = .next t → BufferInv t ∧ ScanInv t

/-- Ring, injected queue and table states stay in agreement: the status word write is the last request of its command,
injected requests are those of the executing command, and a table is LOADING exactly while its fetch is in progress (R9,
R154, R158, R160). -/
def Obligations.RingAndTablesAgree : Prop := ∀ s t : State, RingInv s → step s = .next t → RingInv t

end
end

