-- ==== Sys2Proof/Laws/State.lean ====
section
/-! SUPPORT. What each plain update of the state leaves in each field: one lemma per field per update, true by unfolding, so
that no later proof has to unfold a record update. -/

namespace Sys2Proof.Machine

/-! ### setFlag -/

@[simp] theorem State.setFlag_pending (f : Flag) (s : State) : (s.setFlag f).pending = s.pending := rfl
@[simp] theorem State.setFlag_resetAsserted (f : Flag) (s : State) : (s.setFlag f).resetAsserted = s.resetAsserted := rfl
@[simp] theorem State.setFlag_cfg (f : Flag) (s : State) : (s.setFlag f).cfg = s.cfg := rfl
@[simp] theorem State.setFlag_ms (f : Flag) (s : State) : (s.setFlag f).ms = s.ms := rfl
@[simp] theorem State.setFlag_link (f : Flag) (s : State) : (s.setFlag f).link = s.link := rfl
@[simp] theorem State.setFlag_windows (f : Flag) (s : State) : (s.setFlag f).windows = s.windows := rfl
@[simp] theorem State.setFlag_buffers (f : Flag) (s : State) : (s.setFlag f).buffers = s.buffers := rfl
@[simp] theorem State.setFlag_queue (f : Flag) (s : State) : (s.setFlag f).queue = s.queue := rfl
@[simp] theorem State.setFlag_grid (f : Flag) (s : State) : (s.setFlag f).grid = s.grid := rfl
@[simp] theorem State.setFlag_banks (f : Flag) (s : State) : (s.setFlag f).banks = s.banks := rfl
@[simp] theorem State.setFlag_engine (f : Flag) (s : State) : (s.setFlag f).engine = s.engine := rfl
@[simp] theorem State.setFlag_history (f : Flag) (s : State) : (s.setFlag f).history = s.history := rfl
@[simp] theorem State.setFlag_results (f : Flag) (s : State) : (s.setFlag f).results = s.results := rfl
@[simp] theorem State.setFlag_drive (f : Flag) (s : State) : (s.setFlag f).drive = s.drive := rfl
@[simp] theorem State.setFlag_scan (f : Flag) (s : State) : (s.setFlag f).scan = s.scan := rfl
@[simp] theorem State.setFlag_lines (f : Flag) (s : State) : (s.setFlag f).lines = s.lines := rfl
@[simp] theorem State.setFlag_faults (f : Flag) (s : State) : (s.setFlag f).faults = s.faults := rfl
@[simp] theorem State.setFlag_protection (f : Flag) (s : State) : (s.setFlag f).protection = s.protection := rfl
@[simp] theorem State.setFlag_ring (f : Flag) (s : State) : (s.setFlag f).ring = s.ring := rfl
@[simp] theorem State.setFlag_tables (f : Flag) (s : State) : (s.setFlag f).tables = s.tables := rfl
@[simp] theorem State.setFlag_events (f : Flag) (s : State) : (s.setFlag f).events = s.events := rfl
@[simp] theorem State.setFlag_accrued (f : Flag) (s : State) :
    (s.setFlag f).accrued = s.accrued ||| BitVec.twoPow 15 (flagBit f) := rfl
@[simp] theorem State.setFlag_freeCount (f : Flag) (s : State) : (s.setFlag f).freeCount = s.freeCount := rfl

/-! ### modifyLine -/

@[simp] theorem State.modifyLine_pending (l : LineNo) (f : Line → Line) (s : State) :
    (s.modifyLine l f).pending = s.pending := rfl
@[simp] theorem State.modifyLine_resetAsserted (l : LineNo) (f : Line → Line) (s : State) :
    (s.modifyLine l f).resetAsserted = s.resetAsserted := rfl
@[simp] theorem State.modifyLine_cfg (l : LineNo) (f : Line → Line) (s : State) : (s.modifyLine l f).cfg = s.cfg := rfl
@[simp] theorem State.modifyLine_ms (l : LineNo) (f : Line → Line) (s : State) : (s.modifyLine l f).ms = s.ms := rfl
@[simp] theorem State.modifyLine_link (l : LineNo) (f : Line → Line) (s : State) :
    (s.modifyLine l f).link = s.link := rfl
@[simp] theorem State.modifyLine_windows (l : LineNo) (f : Line → Line) (s : State) :
    (s.modifyLine l f).windows = s.windows := rfl
@[simp] theorem State.modifyLine_buffers (l : LineNo) (f : Line → Line) (s : State) :
    (s.modifyLine l f).buffers = s.buffers := rfl
@[simp] theorem State.modifyLine_queue (l : LineNo) (f : Line → Line) (s : State) :
    (s.modifyLine l f).queue = s.queue := rfl
@[simp] theorem State.modifyLine_grid (l : LineNo) (f : Line → Line) (s : State) :
    (s.modifyLine l f).grid = s.grid := rfl
@[simp] theorem State.modifyLine_banks (l : LineNo) (f : Line → Line) (s : State) :
    (s.modifyLine l f).banks = s.banks := rfl
@[simp] theorem State.modifyLine_engine (l : LineNo) (f : Line → Line) (s : State) :
    (s.modifyLine l f).engine = s.engine := rfl
@[simp] theorem State.modifyLine_history (l : LineNo) (f : Line → Line) (s : State) :
    (s.modifyLine l f).history = s.history := rfl
@[simp] theorem State.modifyLine_results (l : LineNo) (f : Line → Line) (s : State) :
    (s.modifyLine l f).results = s.results := rfl
@[simp] theorem State.modifyLine_drive (l : LineNo) (f : Line → Line) (s : State) :
    (s.modifyLine l f).drive = s.drive := rfl
@[simp] theorem State.modifyLine_scan (l : LineNo) (f : Line → Line) (s : State) :
    (s.modifyLine l f).scan = s.scan := rfl
@[simp] theorem State.modifyLine_lines (l : LineNo) (f : Line → Line) (s : State) :
    (s.modifyLine l f).lines = s.lines.set l (f s.lines[l]) := rfl
@[simp] theorem State.modifyLine_faults (l : LineNo) (f : Line → Line) (s : State) :
    (s.modifyLine l f).faults = s.faults := rfl
@[simp] theorem State.modifyLine_protection (l : LineNo) (f : Line → Line) (s : State) :
    (s.modifyLine l f).protection = s.protection := rfl
@[simp] theorem State.modifyLine_ring (l : LineNo) (f : Line → Line) (s : State) :
    (s.modifyLine l f).ring = s.ring := rfl
@[simp] theorem State.modifyLine_tables (l : LineNo) (f : Line → Line) (s : State) :
    (s.modifyLine l f).tables = s.tables := rfl
@[simp] theorem State.modifyLine_events (l : LineNo) (f : Line → Line) (s : State) :
    (s.modifyLine l f).events = s.events := rfl
@[simp] theorem State.modifyLine_accrued (l : LineNo) (f : Line → Line) (s : State) :
    (s.modifyLine l f).accrued = s.accrued := rfl
@[simp] theorem State.modifyLine_freeCount (l : LineNo) (f : Line → Line) (s : State) :
    (s.modifyLine l f).freeCount = s.freeCount := rfl

/-! ### setBuffer -/

@[simp] theorem State.setBuffer_pending (w : WindowNo) (b : Buffer) (s : State) :
    (s.setBuffer w b).pending = s.pending := rfl
@[simp] theorem State.setBuffer_resetAsserted (w : WindowNo) (b : Buffer) (s : State) :
    (s.setBuffer w b).resetAsserted = s.resetAsserted := rfl
@[simp] theorem State.setBuffer_cfg (w : WindowNo) (b : Buffer) (s : State) : (s.setBuffer w b).cfg = s.cfg := rfl
@[simp] theorem State.setBuffer_ms (w : WindowNo) (b : Buffer) (s : State) : (s.setBuffer w b).ms = s.ms := rfl
@[simp] theorem State.setBuffer_link (w : WindowNo) (b : Buffer) (s : State) : (s.setBuffer w b).link = s.link := rfl
@[simp] theorem State.setBuffer_windows (w : WindowNo) (b : Buffer) (s : State) :
    (s.setBuffer w b).windows = s.windows := rfl
@[simp] theorem State.setBuffer_buffers (w : WindowNo) (b : Buffer) (s : State) :
    (s.setBuffer w b).buffers = s.buffers.set w b := rfl
@[simp] theorem State.setBuffer_queue (w : WindowNo) (b : Buffer) (s : State) : (s.setBuffer w b).queue = s.queue := rfl
@[simp] theorem State.setBuffer_grid (w : WindowNo) (b : Buffer) (s : State) : (s.setBuffer w b).grid = s.grid := rfl
@[simp] theorem State.setBuffer_banks (w : WindowNo) (b : Buffer) (s : State) : (s.setBuffer w b).banks = s.banks := rfl
@[simp] theorem State.setBuffer_engine (w : WindowNo) (b : Buffer) (s : State) :
    (s.setBuffer w b).engine = s.engine := rfl
@[simp] theorem State.setBuffer_history (w : WindowNo) (b : Buffer) (s : State) :
    (s.setBuffer w b).history = s.history := rfl
@[simp] theorem State.setBuffer_results (w : WindowNo) (b : Buffer) (s : State) :
    (s.setBuffer w b).results = s.results := rfl
@[simp] theorem State.setBuffer_drive (w : WindowNo) (b : Buffer) (s : State) : (s.setBuffer w b).drive = s.drive := rfl
@[simp] theorem State.setBuffer_scan (w : WindowNo) (b : Buffer) (s : State) : (s.setBuffer w b).scan = s.scan := rfl
@[simp] theorem State.setBuffer_lines (w : WindowNo) (b : Buffer) (s : State) : (s.setBuffer w b).lines = s.lines := rfl
@[simp] theorem State.setBuffer_faults (w : WindowNo) (b : Buffer) (s : State) :
    (s.setBuffer w b).faults = s.faults := rfl
@[simp] theorem State.setBuffer_protection (w : WindowNo) (b : Buffer) (s : State) :
    (s.setBuffer w b).protection = s.protection := rfl
@[simp] theorem State.setBuffer_ring (w : WindowNo) (b : Buffer) (s : State) : (s.setBuffer w b).ring = s.ring := rfl
@[simp] theorem State.setBuffer_tables (w : WindowNo) (b : Buffer) (s : State) :
    (s.setBuffer w b).tables = s.tables := rfl
@[simp] theorem State.setBuffer_events (w : WindowNo) (b : Buffer) (s : State) :
    (s.setBuffer w b).events = s.events := rfl
@[simp] theorem State.setBuffer_accrued (w : WindowNo) (b : Buffer) (s : State) :
    (s.setBuffer w b).accrued = s.accrued := rfl
@[simp] theorem State.setBuffer_freeCount (w : WindowNo) (b : Buffer) (s : State) :
    (s.setBuffer w b).freeCount = s.freeCount := rfl

/-! ### setBank -/

@[simp] theorem State.setBank_pending (b : BankNo) (k : Bank) (s : State) : (s.setBank b k).pending = s.pending := rfl
@[simp] theorem State.setBank_resetAsserted (b : BankNo) (k : Bank) (s : State) :
    (s.setBank b k).resetAsserted = s.resetAsserted := rfl
@[simp] theorem State.setBank_cfg (b : BankNo) (k : Bank) (s : State) : (s.setBank b k).cfg = s.cfg := rfl
@[simp] theorem State.setBank_ms (b : BankNo) (k : Bank) (s : State) : (s.setBank b k).ms = s.ms := rfl
@[simp] theorem State.setBank_link (b : BankNo) (k : Bank) (s : State) : (s.setBank b k).link = s.link := rfl
@[simp] theorem State.setBank_windows (b : BankNo) (k : Bank) (s : State) : (s.setBank b k).windows = s.windows := rfl
@[simp] theorem State.setBank_buffers (b : BankNo) (k : Bank) (s : State) : (s.setBank b k).buffers = s.buffers := rfl
@[simp] theorem State.setBank_queue (b : BankNo) (k : Bank) (s : State) : (s.setBank b k).queue = s.queue := rfl
@[simp] theorem State.setBank_grid (b : BankNo) (k : Bank) (s : State) : (s.setBank b k).grid = s.grid := rfl
@[simp] theorem State.setBank_banks (b : BankNo) (k : Bank) (s : State) : (s.setBank b k).banks = s.banks.set b k := rfl
@[simp] theorem State.setBank_engine (b : BankNo) (k : Bank) (s : State) : (s.setBank b k).engine = s.engine := rfl
@[simp] theorem State.setBank_history (b : BankNo) (k : Bank) (s : State) : (s.setBank b k).history = s.history := rfl
@[simp] theorem State.setBank_results (b : BankNo) (k : Bank) (s : State) : (s.setBank b k).results = s.results := rfl
@[simp] theorem State.setBank_drive (b : BankNo) (k : Bank) (s : State) : (s.setBank b k).drive = s.drive := rfl
@[simp] theorem State.setBank_scan (b : BankNo) (k : Bank) (s : State) : (s.setBank b k).scan = s.scan := rfl
@[simp] theorem State.setBank_lines (b : BankNo) (k : Bank) (s : State) : (s.setBank b k).lines = s.lines := rfl
@[simp] theorem State.setBank_faults (b : BankNo) (k : Bank) (s : State) : (s.setBank b k).faults = s.faults := rfl
@[simp] theorem State.setBank_protection (b : BankNo) (k : Bank) (s : State) :
    (s.setBank b k).protection = s.protection := rfl
@[simp] theorem State.setBank_ring (b : BankNo) (k : Bank) (s : State) : (s.setBank b k).ring = s.ring := rfl
@[simp] theorem State.setBank_tables (b : BankNo) (k : Bank) (s : State) : (s.setBank b k).tables = s.tables := rfl
@[simp] theorem State.setBank_events (b : BankNo) (k : Bank) (s : State) : (s.setBank b k).events = s.events := rfl
@[simp] theorem State.setBank_accrued (b : BankNo) (k : Bank) (s : State) : (s.setBank b k).accrued = s.accrued := rfl
@[simp] theorem State.setBank_freeCount (b : BankNo) (k : Bank) (s : State) :
    (s.setBank b k).freeCount = s.freeCount := rfl

/-! ### setSequencer -/

@[simp] theorem State.setSequencer_pending (q : Sequencer) (t : Timer) (s : State) :
    (s.setSequencer q t).pending = s.pending := rfl
@[simp] theorem State.setSequencer_resetAsserted (q : Sequencer) (t : Timer) (s : State) :
    (s.setSequencer q t).resetAsserted = s.resetAsserted := rfl
@[simp] theorem State.setSequencer_cfg (q : Sequencer) (t : Timer) (s : State) : (s.setSequencer q t).cfg = s.cfg := rfl
@[simp] theorem State.setSequencer_ms (q : Sequencer) (t : Timer) (s : State) : (s.setSequencer q t).ms = s.ms := rfl
@[simp] theorem State.setSequencer_link (q : Sequencer) (t : Timer) (s : State) :
    (s.setSequencer q t).link = s.link := rfl
@[simp] theorem State.setSequencer_windows (q : Sequencer) (t : Timer) (s : State) :
    (s.setSequencer q t).windows = s.windows := rfl
@[simp] theorem State.setSequencer_buffers (q : Sequencer) (t : Timer) (s : State) :
    (s.setSequencer q t).buffers = s.buffers := rfl
@[simp] theorem State.setSequencer_queue (q : Sequencer) (t : Timer) (s : State) :
    (s.setSequencer q t).queue = s.queue := rfl
@[simp] theorem State.setSequencer_grid (q : Sequencer) (t : Timer) (s : State) :
    (s.setSequencer q t).grid = s.grid := rfl
@[simp] theorem State.setSequencer_banks (q : Sequencer) (t : Timer) (s : State) :
    (s.setSequencer q t).banks = s.banks := rfl
@[simp] theorem State.setSequencer_engine (q : Sequencer) (t : Timer) (s : State) :
    (s.setSequencer q t).engine = s.engine := rfl
@[simp] theorem State.setSequencer_history (q : Sequencer) (t : Timer) (s : State) :
    (s.setSequencer q t).history = s.history := rfl
@[simp] theorem State.setSequencer_results (q : Sequencer) (t : Timer) (s : State) :
    (s.setSequencer q t).results = s.results := rfl
@[simp] theorem State.setSequencer_drive (q : Sequencer) (t : Timer) (s : State) :
    (s.setSequencer q t).drive = s.drive := rfl
@[simp] theorem State.setSequencer_scan (q : Sequencer) (t : Timer) (s : State) :
    (s.setSequencer q t).scan = s.scan := rfl
@[simp] theorem State.setSequencer_lines (q : Sequencer) (t : Timer) (s : State) :
    (s.setSequencer q t).lines = s.lines := rfl
@[simp] theorem State.setSequencer_faults (q : Sequencer) (t : Timer) (s : State) :
    (s.setSequencer q t).faults = s.faults := rfl
@[simp] theorem State.setSequencer_protection (q : Sequencer) (t : Timer) (s : State) :
    (s.setSequencer q t).protection = { s.protection with sequencer := q, stepTimer := t } := rfl
@[simp] theorem State.setSequencer_ring (q : Sequencer) (t : Timer) (s : State) :
    (s.setSequencer q t).ring = s.ring := rfl
@[simp] theorem State.setSequencer_tables (q : Sequencer) (t : Timer) (s : State) :
    (s.setSequencer q t).tables = s.tables := rfl
@[simp] theorem State.setSequencer_events (q : Sequencer) (t : Timer) (s : State) :
    (s.setSequencer q t).events = s.events := rfl
@[simp] theorem State.setSequencer_accrued (q : Sequencer) (t : Timer) (s : State) :
    (s.setSequencer q t).accrued = s.accrued := rfl
@[simp] theorem State.setSequencer_freeCount (q : Sequencer) (t : Timer) (s : State) :
    (s.setSequencer q t).freeCount = s.freeCount := rfl

/-! ### setTarget -/

@[simp] theorem State.setTarget_pending (on : Bool) (s : State) : (s.setTarget on).pending = s.pending := rfl
@[simp] theorem State.setTarget_resetAsserted (on : Bool) (s : State) :
    (s.setTarget on).resetAsserted = s.resetAsserted := rfl
@[simp] theorem State.setTarget_cfg (on : Bool) (s : State) : (s.setTarget on).cfg = s.cfg := rfl
@[simp] theorem State.setTarget_ms (on : Bool) (s : State) : (s.setTarget on).ms = s.ms := rfl
@[simp] theorem State.setTarget_link (on : Bool) (s : State) : (s.setTarget on).link = s.link := rfl
@[simp] theorem State.setTarget_windows (on : Bool) (s : State) : (s.setTarget on).windows = s.windows := rfl
@[simp] theorem State.setTarget_buffers (on : Bool) (s : State) : (s.setTarget on).buffers = s.buffers := rfl
@[simp] theorem State.setTarget_queue (on : Bool) (s : State) : (s.setTarget on).queue = s.queue := rfl
@[simp] theorem State.setTarget_grid (on : Bool) (s : State) : (s.setTarget on).grid = s.grid := rfl
@[simp] theorem State.setTarget_banks (on : Bool) (s : State) : (s.setTarget on).banks = s.banks := rfl
@[simp] theorem State.setTarget_engine (on : Bool) (s : State) : (s.setTarget on).engine = s.engine := rfl
@[simp] theorem State.setTarget_history (on : Bool) (s : State) : (s.setTarget on).history = s.history := rfl
@[simp] theorem State.setTarget_results (on : Bool) (s : State) : (s.setTarget on).results = s.results := rfl
@[simp] theorem State.setTarget_drive (on : Bool) (s : State) : (s.setTarget on).drive = s.drive := rfl
@[simp] theorem State.setTarget_scan (on : Bool) (s : State) : (s.setTarget on).scan = s.scan := rfl
@[simp] theorem State.setTarget_lines (on : Bool) (s : State) : (s.setTarget on).lines = s.lines := rfl
@[simp] theorem State.setTarget_faults (on : Bool) (s : State) : (s.setTarget on).faults = s.faults := rfl
@[simp] theorem State.setTarget_protection (on : Bool) (s : State) :
    (s.setTarget on).protection = { s.protection with target := on } := rfl
@[simp] theorem State.setTarget_ring (on : Bool) (s : State) : (s.setTarget on).ring = s.ring := rfl
@[simp] theorem State.setTarget_tables (on : Bool) (s : State) : (s.setTarget on).tables = s.tables := rfl
@[simp] theorem State.setTarget_events (on : Bool) (s : State) : (s.setTarget on).events = s.events := rfl
@[simp] theorem State.setTarget_accrued (on : Bool) (s : State) : (s.setTarget on).accrued = s.accrued := rfl
@[simp] theorem State.setTarget_freeCount (on : Bool) (s : State) : (s.setTarget on).freeCount = s.freeCount := rfl

/-! ### setCoolDown -/

@[simp] theorem State.setCoolDown_pending (n : Nat) (s : State) : (s.setCoolDown n).pending = s.pending := rfl
@[simp] theorem State.setCoolDown_resetAsserted (n : Nat) (s : State) :
    (s.setCoolDown n).resetAsserted = s.resetAsserted := rfl
@[simp] theorem State.setCoolDown_cfg (n : Nat) (s : State) : (s.setCoolDown n).cfg = s.cfg := rfl
@[simp] theorem State.setCoolDown_ms (n : Nat) (s : State) : (s.setCoolDown n).ms = s.ms := rfl
@[simp] theorem State.setCoolDown_link (n : Nat) (s : State) : (s.setCoolDown n).link = s.link := rfl
@[simp] theorem State.setCoolDown_windows (n : Nat) (s : State) : (s.setCoolDown n).windows = s.windows := rfl
@[simp] theorem State.setCoolDown_buffers (n : Nat) (s : State) : (s.setCoolDown n).buffers = s.buffers := rfl
@[simp] theorem State.setCoolDown_queue (n : Nat) (s : State) : (s.setCoolDown n).queue = s.queue := rfl
@[simp] theorem State.setCoolDown_grid (n : Nat) (s : State) : (s.setCoolDown n).grid = s.grid := rfl
@[simp] theorem State.setCoolDown_banks (n : Nat) (s : State) : (s.setCoolDown n).banks = s.banks := rfl
@[simp] theorem State.setCoolDown_engine (n : Nat) (s : State) : (s.setCoolDown n).engine = s.engine := rfl
@[simp] theorem State.setCoolDown_history (n : Nat) (s : State) : (s.setCoolDown n).history = s.history := rfl
@[simp] theorem State.setCoolDown_results (n : Nat) (s : State) : (s.setCoolDown n).results = s.results := rfl
@[simp] theorem State.setCoolDown_drive (n : Nat) (s : State) : (s.setCoolDown n).drive = s.drive := rfl
@[simp] theorem State.setCoolDown_scan (n : Nat) (s : State) : (s.setCoolDown n).scan = s.scan := rfl
@[simp] theorem State.setCoolDown_lines (n : Nat) (s : State) : (s.setCoolDown n).lines = s.lines := rfl
@[simp] theorem State.setCoolDown_faults (n : Nat) (s : State) : (s.setCoolDown n).faults = s.faults := rfl
@[simp] theorem State.setCoolDown_protection (n : Nat) (s : State) :
    (s.setCoolDown n).protection = { s.protection with coolDown := n } := rfl
@[simp] theorem State.setCoolDown_ring (n : Nat) (s : State) : (s.setCoolDown n).ring = s.ring := rfl
@[simp] theorem State.setCoolDown_tables (n : Nat) (s : State) : (s.setCoolDown n).tables = s.tables := rfl
@[simp] theorem State.setCoolDown_events (n : Nat) (s : State) : (s.setCoolDown n).events = s.events := rfl
@[simp] theorem State.setCoolDown_accrued (n : Nat) (s : State) : (s.setCoolDown n).accrued = s.accrued := rfl
@[simp] theorem State.setCoolDown_freeCount (n : Nat) (s : State) : (s.setCoolDown n).freeCount = s.freeCount := rfl

/-! ### endScan -/

@[simp] theorem State.endScan_pending (s : State) : (s.endScan).pending = s.pending := rfl
@[simp] theorem State.endScan_resetAsserted (s : State) : (s.endScan).resetAsserted = s.resetAsserted := rfl
@[simp] theorem State.endScan_cfg (s : State) : (s.endScan).cfg = s.cfg := rfl
@[simp] theorem State.endScan_ms (s : State) : (s.endScan).ms = s.ms := rfl
@[simp] theorem State.endScan_link (s : State) : (s.endScan).link = s.link := rfl
@[simp] theorem State.endScan_windows (s : State) : (s.endScan).windows = s.windows := rfl
@[simp] theorem State.endScan_buffers (s : State) : (s.endScan).buffers = s.buffers := rfl
@[simp] theorem State.endScan_queue (s : State) : (s.endScan).queue = s.queue := rfl
@[simp] theorem State.endScan_grid (s : State) : (s.endScan).grid = s.grid := rfl
@[simp] theorem State.endScan_banks (s : State) : (s.endScan).banks = s.banks := rfl
@[simp] theorem State.endScan_engine (s : State) : (s.endScan).engine = s.engine := rfl
@[simp] theorem State.endScan_history (s : State) : (s.endScan).history = s.history := rfl
@[simp] theorem State.endScan_results (s : State) : (s.endScan).results = s.results := rfl
@[simp] theorem State.endScan_drive (s : State) : (s.endScan).drive = s.drive := rfl
@[simp] theorem State.endScan_scan (s : State) :
    (s.endScan).scan = { s.scan with pointer := none, result := none, progress := 0, passed := 0, committed := 0 } := rfl
@[simp] theorem State.endScan_lines (s : State) : (s.endScan).lines = s.lines := rfl
@[simp] theorem State.endScan_faults (s : State) : (s.endScan).faults = s.faults := rfl
@[simp] theorem State.endScan_protection (s : State) : (s.endScan).protection = s.protection := rfl
@[simp] theorem State.endScan_ring (s : State) : (s.endScan).ring = s.ring := rfl
@[simp] theorem State.endScan_tables (s : State) : (s.endScan).tables = s.tables := rfl
@[simp] theorem State.endScan_events (s : State) : (s.endScan).events = s.events := rfl
@[simp] theorem State.endScan_accrued (s : State) : (s.endScan).accrued = s.accrued := rfl
@[simp] theorem State.endScan_freeCount (s : State) : (s.endScan).freeCount = s.freeCount := rfl

/-! ### stopSupervision -/

@[simp] theorem State.stopSupervision_pending (s : State) : (s.stopSupervision).pending = s.pending := rfl
@[simp] theorem State.stopSupervision_resetAsserted (s : State) :
    (s.stopSupervision).resetAsserted = s.resetAsserted := rfl
@[simp] theorem State.stopSupervision_cfg (s : State) : (s.stopSupervision).cfg = s.cfg := rfl
@[simp] theorem State.stopSupervision_ms (s : State) : (s.stopSupervision).ms = s.ms := rfl
@[simp] theorem State.stopSupervision_link (s : State) : (s.stopSupervision).link = s.link := rfl
@[simp] theorem State.stopSupervision_windows (s : State) : (s.stopSupervision).windows = s.windows := rfl
@[simp] theorem State.stopSupervision_buffers (s : State) : (s.stopSupervision).buffers = s.buffers := rfl
@[simp] theorem State.stopSupervision_queue (s : State) : (s.stopSupervision).queue = s.queue := rfl
@[simp] theorem State.stopSupervision_grid (s : State) : (s.stopSupervision).grid = s.grid := rfl
@[simp] theorem State.stopSupervision_banks (s : State) : (s.stopSupervision).banks = s.banks := rfl
@[simp] theorem State.stopSupervision_engine (s : State) : (s.stopSupervision).engine = s.engine := rfl
@[simp] theorem State.stopSupervision_history (s : State) : (s.stopSupervision).history = s.history := rfl
@[simp] theorem State.stopSupervision_results (s : State) : (s.stopSupervision).results = s.results := rfl
@[simp] theorem State.stopSupervision_drive (s : State) : (s.stopSupervision).drive = s.drive := rfl
@[simp] theorem State.stopSupervision_scan (s : State) :
    (s.stopSupervision).scan = { s.scan with supervision := .stopped } := rfl
@[simp] theorem State.stopSupervision_lines (s : State) : (s.stopSupervision).lines = s.lines := rfl
@[simp] theorem State.stopSupervision_faults (s : State) : (s.stopSupervision).faults = s.faults := rfl
@[simp] theorem State.stopSupervision_protection (s : State) : (s.stopSupervision).protection = s.protection := rfl
@[simp] theorem State.stopSupervision_ring (s : State) : (s.stopSupervision).ring = s.ring := rfl
@[simp] theorem State.stopSupervision_tables (s : State) : (s.stopSupervision).tables = s.tables := rfl
@[simp] theorem State.stopSupervision_events (s : State) : (s.stopSupervision).events = s.events := rfl
@[simp] theorem State.stopSupervision_accrued (s : State) : (s.stopSupervision).accrued = s.accrued := rfl
@[simp] theorem State.stopSupervision_freeCount (s : State) : (s.stopSupervision).freeCount = s.freeCount := rfl

/-! ### restartSupervision -/

@[simp] theorem State.restartSupervision_pending (s : State) : (s.restartSupervision).pending = s.pending := rfl
@[simp] theorem State.restartSupervision_resetAsserted (s : State) :
    (s.restartSupervision).resetAsserted = s.resetAsserted := rfl
@[simp] theorem State.restartSupervision_cfg (s : State) : (s.restartSupervision).cfg = s.cfg := rfl
@[simp] theorem State.restartSupervision_ms (s : State) : (s.restartSupervision).ms = s.ms := rfl
@[simp] theorem State.restartSupervision_link (s : State) : (s.restartSupervision).link = s.link := rfl
@[simp] theorem State.restartSupervision_windows (s : State) : (s.restartSupervision).windows = s.windows := rfl
@[simp] theorem State.restartSupervision_buffers (s : State) : (s.restartSupervision).buffers = s.buffers := rfl
@[simp] theorem State.restartSupervision_queue (s : State) : (s.restartSupervision).queue = s.queue := rfl
@[simp] theorem State.restartSupervision_grid (s : State) : (s.restartSupervision).grid = s.grid := rfl
@[simp] theorem State.restartSupervision_banks (s : State) : (s.restartSupervision).banks = s.banks := rfl
@[simp] theorem State.restartSupervision_engine (s : State) : (s.restartSupervision).engine = s.engine := rfl
@[simp] theorem State.restartSupervision_history (s : State) : (s.restartSupervision).history = s.history := rfl
@[simp] theorem State.restartSupervision_results (s : State) : (s.restartSupervision).results = s.results := rfl
@[simp] theorem State.restartSupervision_drive (s : State) : (s.restartSupervision).drive = s.drive := rfl
@[simp] theorem State.restartSupervision_scan (s : State) :
    (s.restartSupervision).scan = { s.scan with supervision := .running 0 } := rfl
@[simp] theorem State.restartSupervision_lines (s : State) : (s.restartSupervision).lines = s.lines := rfl
@[simp] theorem State.restartSupervision_faults (s : State) : (s.restartSupervision).faults = s.faults := rfl
@[simp] theorem State.restartSupervision_protection (s : State) : (s.restartSupervision).protection = s.protection := rfl
@[simp] theorem State.restartSupervision_ring (s : State) : (s.restartSupervision).ring = s.ring := rfl
@[simp] theorem State.restartSupervision_tables (s : State) : (s.restartSupervision).tables = s.tables := rfl
@[simp] theorem State.restartSupervision_events (s : State) : (s.restartSupervision).events = s.events := rfl
@[simp] theorem State.restartSupervision_accrued (s : State) : (s.restartSupervision).accrued = s.accrued := rfl
@[simp] theorem State.restartSupervision_freeCount (s : State) : (s.restartSupervision).freeCount = s.freeCount := rfl

/-! ### abortAnalysis -/

@[simp] theorem State.abortAnalysis_pending (s : State) : (s.abortAnalysis).pending = s.pending := rfl
@[simp] theorem State.abortAnalysis_resetAsserted (s : State) : (s.abortAnalysis).resetAsserted = s.resetAsserted := rfl
@[simp] theorem State.abortAnalysis_cfg (s : State) : (s.abortAnalysis).cfg = s.cfg := rfl
@[simp] theorem State.abortAnalysis_ms (s : State) : (s.abortAnalysis).ms = s.ms := rfl
@[simp] theorem State.abortAnalysis_link (s : State) : (s.abortAnalysis).link = s.link := rfl
@[simp] theorem State.abortAnalysis_windows (s : State) : (s.abortAnalysis).windows = s.windows := rfl
@[simp] theorem State.abortAnalysis_buffers (s : State) : (s.abortAnalysis).buffers = s.buffers := rfl
@[simp] theorem State.abortAnalysis_queue (s : State) : (s.abortAnalysis).queue = s.queue := rfl
@[simp] theorem State.abortAnalysis_grid (s : State) : (s.abortAnalysis).grid = s.grid := rfl
@[simp] theorem State.abortAnalysis_banks (s : State) : (s.abortAnalysis).banks = s.banks := rfl
@[simp] theorem State.abortAnalysis_engine (s : State) :
    (s.abortAnalysis).engine = { s.engine with analysis := none } := rfl
@[simp] theorem State.abortAnalysis_history (s : State) : (s.abortAnalysis).history = s.history := rfl
@[simp] theorem State.abortAnalysis_results (s : State) : (s.abortAnalysis).results = s.results := rfl
@[simp] theorem State.abortAnalysis_drive (s : State) : (s.abortAnalysis).drive = s.drive := rfl
@[simp] theorem State.abortAnalysis_scan (s : State) : (s.abortAnalysis).scan = s.scan := rfl
@[simp] theorem State.abortAnalysis_lines (s : State) : (s.abortAnalysis).lines = s.lines := rfl
@[simp] theorem State.abortAnalysis_faults (s : State) : (s.abortAnalysis).faults = s.faults := rfl
@[simp] theorem State.abortAnalysis_protection (s : State) : (s.abortAnalysis).protection = s.protection := rfl
@[simp] theorem State.abortAnalysis_ring (s : State) : (s.abortAnalysis).ring = s.ring := rfl
@[simp] theorem State.abortAnalysis_tables (s : State) : (s.abortAnalysis).tables = s.tables := rfl
@[simp] theorem State.abortAnalysis_events (s : State) : (s.abortAnalysis).events = s.events := rfl
@[simp] theorem State.abortAnalysis_accrued (s : State) : (s.abortAnalysis).accrued = s.accrued := rfl
@[simp] theorem State.abortAnalysis_freeCount (s : State) : (s.abortAnalysis).freeCount = s.freeCount := rfl

/-! ### unqueue -/

@[simp] theorem State.unqueue_pending (w : WindowNo) (s : State) : (s.unqueue w).pending = s.pending := rfl
@[simp] theorem State.unqueue_resetAsserted (w : WindowNo) (s : State) :
    (s.unqueue w).resetAsserted = s.resetAsserted := rfl
@[simp] theorem State.unqueue_cfg (w : WindowNo) (s : State) : (s.unqueue w).cfg = s.cfg := rfl
@[simp] theorem State.unqueue_ms (w : WindowNo) (s : State) : (s.unqueue w).ms = s.ms := rfl
@[simp] theorem State.unqueue_link (w : WindowNo) (s : State) : (s.unqueue w).link = s.link := rfl
@[simp] theorem State.unqueue_windows (w : WindowNo) (s : State) : (s.unqueue w).windows = s.windows := rfl
@[simp] theorem State.unqueue_buffers (w : WindowNo) (s : State) : (s.unqueue w).buffers = s.buffers := rfl
@[simp] theorem State.unqueue_queue (w : WindowNo) (s : State) : (s.unqueue w).queue = s.queue.filter (· ≠ w) := rfl
@[simp] theorem State.unqueue_grid (w : WindowNo) (s : State) : (s.unqueue w).grid = s.grid := rfl
@[simp] theorem State.unqueue_banks (w : WindowNo) (s : State) : (s.unqueue w).banks = s.banks := rfl
@[simp] theorem State.unqueue_engine (w : WindowNo) (s : State) : (s.unqueue w).engine = s.engine := rfl
@[simp] theorem State.unqueue_history (w : WindowNo) (s : State) : (s.unqueue w).history = s.history := rfl
@[simp] theorem State.unqueue_results (w : WindowNo) (s : State) : (s.unqueue w).results = s.results := rfl
@[simp] theorem State.unqueue_drive (w : WindowNo) (s : State) : (s.unqueue w).drive = s.drive := rfl
@[simp] theorem State.unqueue_scan (w : WindowNo) (s : State) : (s.unqueue w).scan = s.scan := rfl
@[simp] theorem State.unqueue_lines (w : WindowNo) (s : State) : (s.unqueue w).lines = s.lines := rfl
@[simp] theorem State.unqueue_faults (w : WindowNo) (s : State) : (s.unqueue w).faults = s.faults := rfl
@[simp] theorem State.unqueue_protection (w : WindowNo) (s : State) : (s.unqueue w).protection = s.protection := rfl
@[simp] theorem State.unqueue_ring (w : WindowNo) (s : State) : (s.unqueue w).ring = s.ring := rfl
@[simp] theorem State.unqueue_tables (w : WindowNo) (s : State) : (s.unqueue w).tables = s.tables := rfl
@[simp] theorem State.unqueue_events (w : WindowNo) (s : State) : (s.unqueue w).events = s.events := rfl
@[simp] theorem State.unqueue_accrued (w : WindowNo) (s : State) : (s.unqueue w).accrued = s.accrued := rfl
@[simp] theorem State.unqueue_freeCount (w : WindowNo) (s : State) : (s.unqueue w).freeCount = s.freeCount := rfl

/-! ### selectSet -/

@[simp] theorem State.selectSet_pending (x : SetId) (s : State) : (s.selectSet x).pending = s.pending := rfl
@[simp] theorem State.selectSet_resetAsserted (x : SetId) (s : State) :
    (s.selectSet x).resetAsserted = s.resetAsserted := rfl
@[simp] theorem State.selectSet_cfg (x : SetId) (s : State) : (s.selectSet x).cfg = s.cfg := rfl
@[simp] theorem State.selectSet_ms (x : SetId) (s : State) : (s.selectSet x).ms = s.ms := rfl
@[simp] theorem State.selectSet_link (x : SetId) (s : State) : (s.selectSet x).link = s.link := rfl
@[simp] theorem State.selectSet_windows (x : SetId) (s : State) : (s.selectSet x).windows = s.windows := rfl
@[simp] theorem State.selectSet_buffers (x : SetId) (s : State) : (s.selectSet x).buffers = s.buffers := rfl
@[simp] theorem State.selectSet_queue (x : SetId) (s : State) : (s.selectSet x).queue = s.queue := rfl
@[simp] theorem State.selectSet_grid (x : SetId) (s : State) : (s.selectSet x).grid = s.grid := rfl
@[simp] theorem State.selectSet_banks (x : SetId) (s : State) : (s.selectSet x).banks = s.banks := rfl
@[simp] theorem State.selectSet_engine (x : SetId) (s : State) :
    (s.selectSet x).engine = { s.engine with selected := x } := rfl
@[simp] theorem State.selectSet_history (x : SetId) (s : State) : (s.selectSet x).history = s.history := rfl
@[simp] theorem State.selectSet_results (x : SetId) (s : State) : (s.selectSet x).results = s.results := rfl
@[simp] theorem State.selectSet_drive (x : SetId) (s : State) : (s.selectSet x).drive = s.drive := rfl
@[simp] theorem State.selectSet_scan (x : SetId) (s : State) : (s.selectSet x).scan = s.scan := rfl
@[simp] theorem State.selectSet_lines (x : SetId) (s : State) : (s.selectSet x).lines = s.lines := rfl
@[simp] theorem State.selectSet_faults (x : SetId) (s : State) : (s.selectSet x).faults = s.faults := rfl
@[simp] theorem State.selectSet_protection (x : SetId) (s : State) : (s.selectSet x).protection = s.protection := rfl
@[simp] theorem State.selectSet_ring (x : SetId) (s : State) : (s.selectSet x).ring = s.ring := rfl
@[simp] theorem State.selectSet_tables (x : SetId) (s : State) : (s.selectSet x).tables = s.tables := rfl
@[simp] theorem State.selectSet_events (x : SetId) (s : State) : (s.selectSet x).events = s.events := rfl
@[simp] theorem State.selectSet_accrued (x : SetId) (s : State) : (s.selectSet x).accrued = s.accrued := rfl
@[simp] theorem State.selectSet_freeCount (x : SetId) (s : State) : (s.selectSet x).freeCount = s.freeCount := rfl

/-! ### upstreamDown -/

@[simp] theorem State.upstreamDown_pending (s : State) : (s.upstreamDown).pending = s.pending := rfl
@[simp] theorem State.upstreamDown_resetAsserted (s : State) : (s.upstreamDown).resetAsserted = s.resetAsserted := rfl
@[simp] theorem State.upstreamDown_cfg (s : State) : (s.upstreamDown).cfg = s.cfg := rfl
@[simp] theorem State.upstreamDown_ms (s : State) : (s.upstreamDown).ms = s.ms := rfl
@[simp] theorem State.upstreamDown_link (s : State) :
    (s.upstreamDown).link = { s.link with upstream := .down, credits := 0 } := rfl
@[simp] theorem State.upstreamDown_windows (s : State) : (s.upstreamDown).windows = s.windows := rfl
@[simp] theorem State.upstreamDown_buffers (s : State) : (s.upstreamDown).buffers = s.buffers := rfl
@[simp] theorem State.upstreamDown_queue (s : State) : (s.upstreamDown).queue = s.queue := rfl
@[simp] theorem State.upstreamDown_grid (s : State) : (s.upstreamDown).grid = s.grid := rfl
@[simp] theorem State.upstreamDown_banks (s : State) : (s.upstreamDown).banks = s.banks := rfl
@[simp] theorem State.upstreamDown_engine (s : State) : (s.upstreamDown).engine = s.engine := rfl
@[simp] theorem State.upstreamDown_history (s : State) : (s.upstreamDown).history = s.history := rfl
@[simp] theorem State.upstreamDown_results (s : State) : (s.upstreamDown).results = s.results := rfl
@[simp] theorem State.upstreamDown_drive (s : State) : (s.upstreamDown).drive = s.drive := rfl
@[simp] theorem State.upstreamDown_scan (s : State) : (s.upstreamDown).scan = s.scan := rfl
@[simp] theorem State.upstreamDown_lines (s : State) : (s.upstreamDown).lines = s.lines := rfl
@[simp] theorem State.upstreamDown_faults (s : State) : (s.upstreamDown).faults = s.faults := rfl
@[simp] theorem State.upstreamDown_protection (s : State) : (s.upstreamDown).protection = s.protection := rfl
@[simp] theorem State.upstreamDown_ring (s : State) : (s.upstreamDown).ring = s.ring := rfl
@[simp] theorem State.upstreamDown_tables (s : State) : (s.upstreamDown).tables = s.tables := rfl
@[simp] theorem State.upstreamDown_events (s : State) : (s.upstreamDown).events = s.events := rfl
@[simp] theorem State.upstreamDown_accrued (s : State) : (s.upstreamDown).accrued = s.accrued := rfl
@[simp] theorem State.upstreamDown_freeCount (s : State) : (s.upstreamDown).freeCount = s.freeCount := rfl

/-! ### enqueue -/

@[simp] theorem State.enqueue_pending (r : Request) (s : State) : (s.enqueue r).pending = s.pending := rfl
@[simp] theorem State.enqueue_resetAsserted (r : Request) (s : State) :
    (s.enqueue r).resetAsserted = s.resetAsserted := rfl
@[simp] theorem State.enqueue_cfg (r : Request) (s : State) : (s.enqueue r).cfg = s.cfg := rfl
@[simp] theorem State.enqueue_ms (r : Request) (s : State) : (s.enqueue r).ms = s.ms := rfl
@[simp] theorem State.enqueue_link (r : Request) (s : State) :
    (s.enqueue r).link = { s.link with
      credits := s.link.credits - 1, forward := s.link.forward ++ [{ request := r, classes := s.classesOf r }] } := rfl
@[simp] theorem State.enqueue_windows (r : Request) (s : State) : (s.enqueue r).windows = s.windows := rfl
@[simp] theorem State.enqueue_buffers (r : Request) (s : State) : (s.enqueue r).buffers = s.buffers := rfl
@[simp] theorem State.enqueue_queue (r : Request) (s : State) : (s.enqueue r).queue = s.queue := rfl
@[simp] theorem State.enqueue_grid (r : Request) (s : State) : (s.enqueue r).grid = s.grid := rfl
@[simp] theorem State.enqueue_banks (r : Request) (s : State) : (s.enqueue r).banks = s.banks := rfl
@[simp] theorem State.enqueue_engine (r : Request) (s : State) : (s.enqueue r).engine = s.engine := rfl
@[simp] theorem State.enqueue_history (r : Request) (s : State) : (s.enqueue r).history = s.history := rfl
@[simp] theorem State.enqueue_results (r : Request) (s : State) : (s.enqueue r).results = s.results := rfl
@[simp] theorem State.enqueue_drive (r : Request) (s : State) : (s.enqueue r).drive = s.drive := rfl
@[simp] theorem State.enqueue_scan (r : Request) (s : State) : (s.enqueue r).scan = s.scan := rfl
@[simp] theorem State.enqueue_lines (r : Request) (s : State) : (s.enqueue r).lines = s.lines := rfl
@[simp] theorem State.enqueue_faults (r : Request) (s : State) : (s.enqueue r).faults = s.faults := rfl
@[simp] theorem State.enqueue_protection (r : Request) (s : State) : (s.enqueue r).protection = s.protection := rfl
@[simp] theorem State.enqueue_ring (r : Request) (s : State) : (s.enqueue r).ring = s.ring := rfl
@[simp] theorem State.enqueue_tables (r : Request) (s : State) : (s.enqueue r).tables = s.tables := rfl
@[simp] theorem State.enqueue_events (r : Request) (s : State) : (s.enqueue r).events = s.events := rfl
@[simp] theorem State.enqueue_accrued (r : Request) (s : State) : (s.enqueue r).accrued = s.accrued := rfl
@[simp] theorem State.enqueue_freeCount (r : Request) (s : State) : (s.enqueue r).freeCount = s.freeCount := rfl

/-! ### endCommand -/

@[simp] theorem State.endCommand_pending (s : State) : (s.endCommand).pending = s.pending := rfl
@[simp] theorem State.endCommand_resetAsserted (s : State) : (s.endCommand).resetAsserted = s.resetAsserted := rfl
@[simp] theorem State.endCommand_cfg (s : State) : (s.endCommand).cfg = s.cfg := rfl
@[simp] theorem State.endCommand_ms (s : State) : (s.endCommand).ms = s.ms := rfl
@[simp] theorem State.endCommand_link (s : State) : (s.endCommand).link = s.link := rfl
@[simp] theorem State.endCommand_windows (s : State) : (s.endCommand).windows = s.windows := rfl
@[simp] theorem State.endCommand_buffers (s : State) : (s.endCommand).buffers = s.buffers := rfl
@[simp] theorem State.endCommand_queue (s : State) : (s.endCommand).queue = s.queue := rfl
@[simp] theorem State.endCommand_grid (s : State) : (s.endCommand).grid = s.grid := rfl
@[simp] theorem State.endCommand_banks (s : State) : (s.endCommand).banks = s.banks := rfl
@[simp] theorem State.endCommand_engine (s : State) : (s.endCommand).engine = s.engine := rfl
@[simp] theorem State.endCommand_history (s : State) : (s.endCommand).history = s.history := rfl
@[simp] theorem State.endCommand_results (s : State) : (s.endCommand).results = s.results := rfl
@[simp] theorem State.endCommand_drive (s : State) : (s.endCommand).drive = s.drive := rfl
@[simp] theorem State.endCommand_scan (s : State) : (s.endCommand).scan = s.scan := rfl
@[simp] theorem State.endCommand_lines (s : State) : (s.endCommand).lines = s.lines := rfl
@[simp] theorem State.endCommand_faults (s : State) : (s.endCommand).faults = s.faults := rfl
@[simp] theorem State.endCommand_protection (s : State) : (s.endCommand).protection = s.protection := rfl
@[simp] theorem State.endCommand_ring (s : State) :
    (s.endCommand).ring = { s.ring with index := s.ring.index + 1, executing := none } := rfl
@[simp] theorem State.endCommand_tables (s : State) : (s.endCommand).tables = s.tables := rfl
@[simp] theorem State.endCommand_events (s : State) : (s.endCommand).events = s.events := rfl
@[simp] theorem State.endCommand_accrued (s : State) : (s.endCommand).accrued = s.accrued := rfl
@[simp] theorem State.endCommand_freeCount (s : State) : (s.endCommand).freeCount = s.freeCount := rfl

end Sys2Proof.Machine
end

