-- ==== Sys2Proof/Laws/Frames.lean ====
section
/-! SUPPORT. For each shared operation, the pieces of the state it can touch: everything outside them is as before. -/

namespace Sys2Proof.Laws

open Sys2Proof.Machine Sys2Proof.Safety

/-! ### Composing frames -/

theorem outside_refl (ps : List Piece) (s : State) : Outside ps s s := by
  intro p _
  cases p <;> rfl

theorem outside_mono {ps qs : List Piece} {s t : State} (h : Outside ps s t) (hs : ∀ p ∈ ps, p ∈ qs) : Outside qs s t :=
  fun p hp => h p fun hm => hp (hs p hm)

theorem keeps_trans {s t u : State} {p : Piece} (h : Keeps s t p) (k : Keeps t u p) : Keeps s u p := by
  cases p <;> exact Eq.trans k h

theorem outside_trans {ps : List Piece} {s t u : State} (h : Outside ps s t) (k : Outside ps t u) : Outside ps s u :=
  fun p hp => keeps_trans (h p hp) (k p hp)

/-- One more operation, within `qs`, after what stays within `ps`. -/
theorem outside_step {ps qs : List Piece} {s t u : State} (k : Outside qs t u) (hq : ∀ p ∈ qs, p ∈ ps)
    (h : Outside ps s t) : Outside ps s u :=
  outside_trans h (outside_mono k hq)

theorem outside_foldl {α : Type} {ps : List Piece} {f : State → α → State} (h : ∀ t a, Outside ps t (f t a)) (l : List α)
    (s : State) : Outside ps s (l.foldl f s) := by
  induction l generalizing s with
  | nil => exact outside_refl ps s
  | cons a l ih => exact outside_trans (h s a) (ih (f s a))

theorem outside_ite {ps : List Piece} {c : Prop} [Decidable c] {s t u : State} (h : Outside ps s t) (k : Outside ps s u) :
    Outside ps s (if c then t else u) := by
  split
  · exact h
  · exact k

theorem outside_forLines {ps : List Piece} {f : LineNo → State → State} (h : ∀ l t, Outside ps t (f l t)) (s : State) :
    Outside ps s (forLines f s) :=
  outside_foldl (fun t l => h l t) _ s

/-! ### One piece replaced -/

theorem outside_ms (s : State) (x : Word) : Outside [.ms] s { s with ms := x } := by
  intro p hp
  cases p <;> first
    | rfl
    | exact absurd (List.mem_singleton.2 rfl) hp

theorem outside_link (s : State) (x : LinkPath) : Outside [.link] s { s with link := x } := by
  intro p hp
  cases p <;> first
    | rfl
    | exact absurd (List.mem_singleton.2 rfl) hp

theorem outside_windows (s : State) (x : Vector Window 4) : Outside [.windows] s { s with windows := x } := by
  intro p hp
  cases p <;> first
    | rfl
    | exact absurd (List.mem_singleton.2 rfl) hp

theorem outside_buffers (s : State) (x : Vector Buffer 4) : Outside [.buffers] s { s with buffers := x } := by
  intro p hp
  cases p <;> first
    | rfl
    | exact absurd (List.mem_singleton.2 rfl) hp

theorem outside_queue (s : State) (x : List WindowNo) : Outside [.queue] s { s with queue := x } := by
  intro p hp
  cases p <;> first
    | rfl
    | exact absurd (List.mem_singleton.2 rfl) hp

theorem outside_grid (s : State) (x : Grid) : Outside [.grid] s { s with grid := x } := by
  intro p hp
  cases p <;> first
    | rfl
    | exact absurd (List.mem_singleton.2 rfl) hp

theorem outside_banks (s : State) (x : Vector Bank 2) : Outside [.banks] s { s with banks := x } := by
  intro p hp
  cases p <;> first
    | rfl
    | exact absurd (List.mem_singleton.2 rfl) hp

theorem outside_engine (s : State) (x : Engine) : Outside [.engine] s { s with engine := x } := by
  intro p hp
  cases p <;> first
    | rfl
    | exact absurd (List.mem_singleton.2 rfl) hp

theorem outside_history (s : State) (x : History) : Outside [.history] s { s with history := x } := by
  intro p hp
  cases p <;> first
    | rfl
    | exact absurd (List.mem_singleton.2 rfl) hp

theorem outside_results (s : State) (x : Vector Result 5) : Outside [.results] s { s with results := x } := by
  intro p hp
  cases p <;> first
    | rfl
    | exact absurd (List.mem_singleton.2 rfl) hp

theorem outside_drive (s : State) (x : ZoneTable DriveEntry DriveEntry.reset) : Outside [.drive] s { s with drive := x } := by
  intro p hp
  cases p <;> first
    | rfl
    | exact absurd (List.mem_singleton.2 rfl) hp

theorem outside_scan (s : State) (x : ScanTracker) : Outside [.scan] s { s with scan := x } := by
  intro p hp
  cases p <;> first
    | rfl
    | exact absurd (List.mem_singleton.2 rfl) hp

theorem outside_lines (s : State) (x : Vector Line 16) : Outside [.lines] s { s with lines := x } := by
  intro p hp
  cases p <;> first
    | rfl
    | exact absurd (List.mem_singleton.2 rfl) hp

theorem outside_faults (s : State) (x : FaultMap) : Outside [.faults] s { s with faults := x } := by
  intro p hp
  cases p <;> first
    | rfl
    | exact absurd (List.mem_singleton.2 rfl) hp

theorem outside_protection (s : State) (x : Protection) : Outside [.protection] s { s with protection := x } := by
  intro p hp
  cases p <;> first
    | rfl
    | exact absurd (List.mem_singleton.2 rfl) hp

theorem outside_ring (s : State) (x : Ring) : Outside [.ring] s { s with ring := x } := by
  intro p hp
  cases p <;> first
    | rfl
    | exact absurd (List.mem_singleton.2 rfl) hp

theorem outside_tables (s : State) (x : Tables) : Outside [.tables] s { s with tables := x } := by
  intro p hp
  cases p <;> first
    | rfl
    | exact absurd (List.mem_singleton.2 rfl) hp

theorem outside_events (s : State) (x : List Event) : Outside [.events] s { s with events := x } := by
  intro p hp
  cases p <;> first
    | rfl
    | exact absurd (List.mem_singleton.2 rfl) hp

theorem outside_accrued (s : State) (x : BitVec 15) : Outside [.accrued] s { s with accrued := x } := by
  intro p hp
  cases p <;> first
    | rfl
    | exact absurd (List.mem_singleton.2 rfl) hp

theorem outside_freeCount (s : State) (x : Nat) : Outside [.freeCount] s { s with freeCount := x } := by
  intro p hp
  cases p <;> first
    | rfl
    | exact absurd (List.mem_singleton.2 rfl) hp

/-! ### Shared operations (Machine/Ops.lean) -/

theorem outside_setFlag (f : Flag) (s : State) : Outside [.accrued] s (s.setFlag f) := outside_accrued s _

theorem outside_setFlagIf (c : Bool) (f : Flag) (s : State) : Outside [.accrued] s (s.setFlagIf c f) :=
  outside_ite (outside_setFlag f s) (outside_refl _ s)

theorem outside_modifyLine (l : LineNo) (f : Line → Line) (s : State) : Outside [.lines] s (s.modifyLine l f) :=
  outside_lines s _

theorem outside_setBuffer (w : WindowNo) (b : Buffer) (s : State) : Outside [.buffers] s (s.setBuffer w b) :=
  outside_buffers s _

theorem outside_setBank (b : BankNo) (k : Bank) (s : State) : Outside [.banks] s (s.setBank b k) := outside_banks s _

theorem outside_addEvent (k : EventKind) (x : Subject) (d : Nat) (s : State) :
    Outside [.events, .accrued] s (s.addEvent k x d) := by
  unfold State.addEvent
  dsimp only
  refine outside_step (outside_events (s.setFlagIf (decide (Config.eventDepth ≤ s.events.length)) .eventOverrun) _) (by decide) ?_
  exact outside_mono (outside_setFlagIf _ _ s) (by decide)

theorem outside_markChannels (l : LineNo) (m : BitVec 384) (s : State) : Outside [.lines] s (s.markChannels l m) :=
  outside_modifyLine l _ s

theorem outside_markZone (z : Nat) (s : State) : Outside [.lines] s (s.markZone z) := by
  unfold State.markZone
  split
  · exact outside_markChannels _ _ s
  · exact outside_refl _ s

theorem outside_writeDrive (z : Nat) (e : DriveEntry) (s : State) : Outside [.drive, .lines] s (s.writeDrive z e) := by
  unfold State.writeDrive
  have h : Outside [.drive, .lines] s { s with drive := s.drive.set z e } := outside_mono (outside_drive s _) (by decide)
  exact outside_ite (outside_step (outside_markZone z _) (by decide) h) h

theorem outside_ceilingMark (l : LineNo) (s : State) : Outside [.lines] s (s.ceilingMark l) :=
  outside_ite (outside_modifyLine l _ s) (outside_refl _ s)

theorem outside_settleCeiling (old : Nat) (s : State) : Outside [.lines] s (s.settleCeiling old) :=
  outside_ite (outside_refl _ s) (outside_forLines outside_ceilingMark s)

theorem outside_startOrder (l : LineNo) (s : State) : Outside [.lines] s (s.startOrder l) :=
  outside_ite (outside_modifyLine l _ s) (outside_refl _ s)

theorem outside_stopOrder (l : LineNo) (s : State) : Outside [.lines] s (s.stopOrder l) :=
  outside_ite (outside_refl _ s) (outside_modifyLine l _ s)

theorem outside_stopUnlessRunning (l : LineNo) (s : State) : Outside [.lines] s (s.stopUnlessRunning l) :=
  outside_ite (outside_refl _ s) (outside_stopOrder l s)

theorem outside_setBacklight (b : Backlight) (s : State) :
    Outside [.protection, .events, .accrued] s (s.setBacklight b) := by
  unfold State.setBacklight
  split
  · exact outside_refl _ s
  · exact outside_step (outside_addEvent _ _ _ _) (by decide) (outside_mono (outside_protection s _) (by decide))

theorem outside_setSequencer (q : Sequencer) (t : Timer) (s : State) : Outside [.protection] s (s.setSequencer q t) :=
  outside_protection s _

theorem outside_setTarget (on : Bool) (s : State) : Outside [.protection] s (s.setTarget on) := outside_protection s _

/-- What power sequencing touches. -/
abbrev powerPieces : List Piece := [.lines, .protection, .events, .accrued]

theorem outside_powerUpBegin (s : State) : Outside powerPieces s s.powerUpBegin := by
  unfold State.powerUpBegin
  have h : Outside powerPieces s (s.setBacklight .poweringUp) := outside_mono (outside_setBacklight _ s) (by decide)
  dsimp only
  split
  · exact outside_step (outside_setBacklight _ _) (by decide) (outside_step (outside_setSequencer _ _ _) (by decide) h)
  · exact outside_step (outside_startOrder _ _) (by decide) (outside_step (outside_setSequencer _ _ _) (by decide) h)

theorem outside_powerDownEnd (s : State) : Outside powerPieces s s.powerDownEnd := by
  unfold State.powerDownEnd
  refine outside_step (outside_settleCeiling _ _) (by decide) ?_
  refine outside_step (outside_setBacklight _ _) (by decide) ?_
  exact outside_mono (outside_setSequencer _ _ s) (by decide)

theorem outside_dropOne (s : State) : Outside powerPieces s s.dropOne := by
  unfold State.dropOne
  split
  · exact outside_powerDownEnd s
  · rename_i l _
    have h : Outside powerPieces s (s.stopOrder l) := outside_mono (outside_stopOrder l s) (by decide)
    dsimp only
    split
    · exact outside_trans h (outside_powerDownEnd _)
    · exact outside_step (outside_setSequencer _ _ _) (by decide) h

theorem outside_powerDownTest (s : State) : Outside powerPieces s s.powerDownTest := by
  unfold State.powerDownTest
  split
  · exact outside_ite (outside_dropOne s) (outside_refl _ s)
  · exact outside_ite (outside_powerDownEnd s) (outside_refl _ s)
  · exact outside_refl _ s
  · exact outside_refl _ s

theorem outside_powerDownBegin (s : State) : Outside powerPieces s s.powerDownBegin := by
  unfold State.powerDownBegin
  dsimp only
  refine outside_step (outside_powerDownTest _) (by decide) ?_
  refine outside_step (outside_forLines outside_stopUnlessRunning _) (by decide) ?_
  refine outside_step (outside_settleCeiling _ _) (by decide) ?_
  refine outside_step (outside_setSequencer _ _ _) (by decide) ?_
  exact outside_mono (outside_setBacklight _ s) (by decide)

theorem outside_releaseTrip (s : State) : Outside [.protection, .events, .accrued] s s.releaseTrip := by
  unfold State.releaseTrip
  split
  · exact outside_refl _ s
  · exact outside_step (outside_addEvent _ _ _ _) (by decide) (outside_mono (outside_protection s _) (by decide))

theorem outside_releaseTripOf (m : ReleaseMode) (s : State) :
    Outside [.protection, .events, .accrued] s (s.releaseTripOf m) := by
  unfold State.releaseTripOf
  split
  · exact outside_refl _ s
  · exact outside_ite (outside_releaseTrip s) (outside_refl _ s)

theorem outside_tickMs (s : State) : Outside [.ms, .scan, .lines] s s.tickMs := by
  unfold State.tickMs
  refine outside_step (outside_forLines (fun l t => outside_modifyLine l lineMs t) _) (by decide) ?_
  intro p hp
  cases p <;> first
    | rfl
    | exact absurd (by decide) hp

theorem outside_tickUs (s : State) : Outside [.protection, .lines] s s.tickUs := by
  unfold State.tickUs
  refine outside_step (outside_forLines (fun l t => outside_modifyLine l lineUs t) _) (by decide) ?_
  exact outside_mono (outside_protection s _) (by decide)

/-! ### Statistics, scan and buffers -/

theorem outside_restartBank (b : BankNo) (s : State) : Outside [.banks] s (s.restartBank b) := outside_setBank b _ s

theorem outside_emptyBank (b : BankNo) (s : State) : Outside [.banks] s (s.emptyBank b) := outside_setBank b _ s

theorem outside_commitRow (k : SlotNo) (row : Nat) (s : State) : Outside [.drive, .lines] s (s.commitRow k row) := by
  unfold State.commitRow
  exact outside_foldl (fun t _ => outside_writeDrive _ _ t) _ s

theorem outside_commitRows (k : SlotNo) (lo hi : Nat) (s : State) : Outside [.drive, .lines] s (s.commitRows k lo hi) := by
  unfold State.commitRows
  exact outside_foldl (fun t _ => outside_commitRow k _ t) _ s

theorem outside_leaveFallback (w : WindowNo) (k : SlotNo) (s : State) :
    Outside [.scan, .events, .accrued] s (s.leaveFallback w k) := by
  unfold State.leaveFallback
  split
  · exact outside_refl _ s
  · exact outside_step (outside_addEvent _ _ _ _) (by decide) (outside_mono (outside_scan s _) (by decide))

theorem outside_endScan (s : State) : Outside [.scan] s s.endScan := outside_scan s _

theorem outside_flushScan (s : State) : Outside [.drive, .lines] s s.flushScan := by
  unfold State.flushScan
  split
  · exact outside_commitRows _ _ _ s
  · exact outside_refl _ s

theorem outside_replaceScan (w : WindowNo) (y : Nat) (s : State) : Outside [.buffers, .scan] s (s.replaceScan w y) := by
  intro p hp
  cases p <;> first
    | rfl
    | exact absurd (by decide) hp

/-- What a scan commits into and reports through. -/
abbrev commitPieces : List Piece := [.drive, .lines, .scan, .events, .accrued]

theorem outside_commitOrHold (w : WindowNo) (s : State) : Outside commitPieces s (s.commitOrHold w) := by
  unfold State.commitOrHold
  split
  · rename_i k _
    refine outside_step (outside_leaveFallback w _ _) (by decide) ?_
    refine outside_step (outside_scan (s.commitRows k 0 s.scan.passed) _) (by decide) ?_
    exact outside_mono (outside_commitRows _ _ _ s) (by decide)
  · exact outside_step (outside_setFlagIf _ .late _) (by decide) (outside_mono (outside_setFlag .hold s) (by decide))

theorem outside_restartSupervision (s : State) : Outside [.scan] s s.restartSupervision := outside_scan s _

theorem outside_stopSupervision (s : State) : Outside [.scan] s s.stopSupervision := outside_scan s _

/-- What a scan read touches beside the forward queue. -/
abbrev scanPieces : List Piece := [.buffers, .drive, .scan, .lines, .protection, .events, .accrued]

theorem outside_scanStart (w : WindowNo) (y : Nat) (s : State) : Outside scanPieces s (s.scanStart w y) := by
  unfold State.scanStart
  refine outside_step (outside_releaseTripOf _ _) (by decide) ?_
  refine outside_step (outside_restartSupervision _) (by decide) ?_
  refine outside_step (outside_commitOrHold w _) (by decide) ?_
  refine outside_step (outside_replaceScan w y _) (by decide) ?_
  exact outside_mono (outside_flushScan s) (by decide)

theorem outside_advance (w : WindowNo) (y : Nat) (s : State) : Outside [.drive, .lines, .scan] s (s.advance w y) := by
  unfold State.advance
  dsimp only
  split
  · exact outside_step (outside_scan (s.commitRows _ _ _) _) (by decide)
      (outside_mono (outside_commitRows _ _ _ s) (by decide))
  · exact outside_mono (outside_scan s _) (by decide)

theorem outside_scanBeat (w : WindowNo) (y : Nat) (s : State) : Outside scanPieces s (s.scanBeat w y) := by
  unfold State.scanBeat
  exact outside_ite (outside_scanStart w y s)
    (outside_ite (outside_mono (outside_advance w y s) (by decide)) (outside_refl _ s))

theorem outside_lateJoin (w : WindowNo) (k : SlotNo) (s : State) : Outside commitPieces s (s.lateJoin w k) := by
  unfold State.lateJoin
  dsimp only
  refine outside_step (outside_leaveFallback w k _) (by decide) ?_
  refine outside_step
    (outside_scan (State.commitRows k 0 s.scan.passed { s with scan := { s.scan with result := some k } }) _) (by decide) ?_
  refine outside_step (outside_commitRows k _ _ _) (by decide) ?_
  exact outside_mono (outside_scan s _) (by decide)

theorem outside_enterFallback (s : State) : Outside commitPieces s s.enterFallback := by
  unfold State.enterFallback
  dsimp only
  refine outside_step (outside_setFlag _ _) (by decide) ?_
  refine outside_step (outside_addEvent _ _ _ _) (by decide) ?_
  refine outside_step (outside_foldl (fun t _ => outside_writeDrive _ _ t) _ _) (by decide) ?_
  refine outside_step (outside_scan s.endScan _) (by decide) ?_
  exact outside_mono (outside_endScan s) (by decide)

theorem outside_superviseExpire (s : State) : Outside commitPieces s s.superviseExpire := by
  unfold State.superviseExpire
  have h : Outside commitPieces s s.stopSupervision := outside_mono (outside_stopSupervision s) (by decide)
  dsimp only
  split
  · exact outside_trans h (outside_enterFallback _)
  · exact outside_step (outside_endScan _) (by decide) h

theorem outside_claimBank (w : WindowNo) (s : State) : Outside [.buffers, .banks] s (s.claimBank w) := by
  unfold State.claimBank
  split
  · exact outside_step (outside_setBuffer w _ _) (by decide) (outside_mono (outside_restartBank _ s) (by decide))
  · exact outside_mono (outside_setBuffer w _ s) (by decide)

theorem outside_abortAnalysis (s : State) : Outside [.engine] s s.abortAnalysis := outside_engine s _

theorem outside_unqueue (w : WindowNo) (s : State) : Outside [.queue] s (s.unqueue w) := outside_queue s _

/-- What a counting write touches beside the forward queue. -/
abbrev countPieces : List Piece := [.buffers, .queue, .banks, .engine, .accrued]

theorem outside_beginCounting (w : WindowNo) (s : State) : Outside countPieces s (s.beginCounting w) := by
  unfold State.beginCounting
  split
  · exact outside_refl _ s
  · exact outside_mono (outside_claimBank w s) (by decide)
  · exact outside_refl _ s
  · exact outside_refl _ s
  · refine outside_step (outside_setFlag _ _) (by decide) ?_
    refine outside_step (outside_setBuffer w _ _) (by decide) ?_
    refine outside_step (outside_restartBank _ _) (by decide) ?_
    exact outside_mono (outside_unqueue w s) (by decide)
  · refine outside_step (outside_setFlag _ _) (by decide) ?_
    refine outside_step (outside_setFlag _ _) (by decide) ?_
    refine outside_step (outside_setBuffer w _ _) (by decide) ?_
    refine outside_step (outside_restartBank _ _) (by decide) ?_
    exact outside_mono (outside_abortAnalysis s) (by decide)
  · refine outside_step (outside_claimBank w _) (by decide) ?_
    refine outside_step (outside_setFlag _ _) (by decide) ?_
    exact outside_mono (outside_setFlagIf _ _ s) (by decide)
  · refine outside_step (outside_claimBank w _) (by decide) ?_
    exact outside_mono (outside_setFlagIf _ _ s) (by decide)

theorem outside_countBeat (c : WriteClass) (s : State) : Outside countPieces s (s.countBeat c) := by
  unfold State.countBeat
  dsimp only
  split
  · split
    · refine outside_step (outside_queue (State.setBuffer _ _ _) _) (by decide) ?_
      exact outside_step (outside_setBuffer _ _ _) (by decide) (outside_mono (outside_setBank _ _ s) (by decide))
    · exact outside_step (outside_setBuffer _ _ _) (by decide) (outside_mono (outside_setBank _ _ s) (by decide))
  · split
    · exact outside_step (outside_setFlag _ _) (by decide) (outside_mono (outside_setBuffer _ _ s) (by decide))
    · exact outside_mono (outside_setBuffer _ _ s) (by decide)
  all_goals exact outside_refl _ s

theorem outside_writeBeat (c : WriteClass) (m : RequestMarks) (s : State) : Outside countPieces s (s.writeBeat c m).2 := by
  unfold State.writeBeat
  split
  · have h : Outside countPieces s (s.setFlagIf c.hasPartial .partialPixel) :=
      outside_mono (outside_setFlagIf _ _ s) (by decide)
    dsimp only
    split
    · exact h
    · refine outside_step (outside_countBeat c _) (by decide) ?_
      split
      · exact h
      · exact outside_step (outside_beginCounting _ _) (by decide) h
  · exact outside_refl _ s

theorem outside_captureBeat (offset : Nat) (b : WriteBeat) (s : State) : Outside [.ring] s (s.captureBeat offset b) := by
  unfold State.captureBeat
  split
  · exact outside_ring s _
  · exact outside_refl _ s

/-- What the beats of a WRITE touch. -/
abbrev writePieces : List Piece := [.buffers, .queue, .banks, .engine, .ring, .accrued]

theorem outside_handWrite (id : BitVec 6) (a : Nat) (b : WriteBeat) (m : RequestMarks) (s : State) :
    Outside writePieces s (s.handWrite id a b m).2 := by
  unfold State.handWrite
  split
  · exact outside_mono (outside_captureBeat _ _ s) (by decide)
  · exact outside_mono (outside_writeBeat _ m s) (by decide)
  · exact outside_refl _ s

theorem outside_handWrites (r : Request) (bs : List WriteBeat) (k : Nat) (m : RequestMarks) (s : State) :
    Outside writePieces s (s.handWrites r bs k m) := by
  induction bs generalizing k m s with
  | nil => exact outside_refl _ s
  | cons b rest ih =>
    unfold State.handWrites
    exact outside_trans (outside_handWrite _ _ b m s) (ih (k + 1) _ _)

theorem outside_handRead (c : ReadClass) (s : State) : Outside scanPieces s (s.handRead c) := by
  unfold State.handRead
  split
  · exact outside_ite (outside_scanBeat _ _ s) (outside_refl _ s)
  · exact outside_refl _ s

theorem outside_handReads (cs : List ReadClass) (s : State) :
    Outside scanPieces s (cs.foldl (fun t c => t.handRead c) s) :=
  outside_foldl (fun t c => outside_handRead c t) cs s

theorem outside_enqueue (r : Request) (s : State) : Outside [.link] s (s.enqueue r) := outside_link s _

/-- What the reception of a request touches. -/
abbrev requestPieces : List Piece :=
  [.link, .buffers, .queue, .banks, .engine, .ring, .drive, .scan, .lines, .protection, .events, .accrued]

theorem outside_receive (r : Request) (s : State) : Outside requestPieces s (s.receive r) := by
  unfold State.receive
  have h : Outside requestPieces s (s.enqueue r) := outside_mono (outside_enqueue r s) (by decide)
  split
  · exact outside_step (outside_handWrites r _ _ _ _) (by decide) h
  · exact outside_step (outside_handReads _ _) (by decide) h

/-! ### Analysis -/

theorem outside_startAnalysis (w : WindowNo) (b : BankNo) (k : SlotNo) (rest : List WindowNo) (s : State) :
    Outside [.buffers, .queue, .engine] s (s.startAnalysis w b k rest) := by
  intro p hp
  cases p <;> first
    | rfl
    | exact absurd (by decide) hp

theorem outside_deliver (w : WindowNo) (k : SlotNo) (s : State) :
    Outside [.buffers, .drive, .lines, .scan, .events, .accrued] s (s.deliver w k) := by
  unfold State.deliver
  split
  · exact outside_step (outside_lateJoin w k _) (by decide) (outside_mono (outside_setBuffer w _ s) (by decide))
  · exact outside_mono (outside_setBuffer w _ s) (by decide)

/-- What the completion of an analysis touches. -/
abbrev completionPieces : List Piece :=
  [.buffers, .engine, .history, .results, .drive, .scan, .lines, .events, .accrued]

theorem outside_completeAnalysis (a : Analysis) (s : State) : Outside completionPieces s (s.completeAnalysis a) := by
  unfold State.completeAnalysis
  dsimp only
  refine outside_step (outside_deliver _ _ _) (by decide) ?_
  refine outside_step (outside_abortAnalysis _) (by decide) ?_
  refine outside_step (outside_setFlagIf _ _ _) (by decide) ?_
  refine outside_step (outside_setFlagIf _ _ _) (by decide) ?_
  intro p hp
  cases p <;> first
    | rfl
    | exact absurd (by decide) hp

/-! ### Driver lines -/

theorem outside_buildLevel (l : LineNo) (s : State) : Outside [.lines] s (s.buildLevel l) := by
  unfold State.buildLevel
  split
  · exact outside_modifyLine l _ s
  · exact outside_refl _ s

theorem outside_faultLine (l : LineNo) (s : State) : Outside powerPieces s (s.faultLine l) := by
  unfold State.faultLine
  dsimp only
  refine outside_step (outside_powerDownTest _) (by decide) ?_
  have h : ∀ f, Outside powerPieces s (s.modifyLine l f) := fun f => outside_mono (outside_modifyLine l f s) (by decide)
  have e : ∀ f k x d, Outside powerPieces s ((s.modifyLine l f).addEvent k x d) := fun f k x d =>
    outside_step (outside_addEvent k x d _) (by decide) (h f)
  have d : ∀ t, Outside powerPieces s t →
      Outside powerPieces s (if t.protection.backlight = .poweringDown then t.stopOrder l else t) := fun t k =>
    outside_ite (outside_step (outside_stopOrder l t) (by decide) k) k
  split
  · exact d _ (e _ _ _ _)
  · exact d _ (e _ _ _ _)

theorem outside_frameFails (l : LineNo) (f : Frame) (s : State) : Outside powerPieces s (s.frameFails l f) := by
  unfold State.frameFails
  have h : Outside powerPieces s (s.setFlag .lineError) := outside_mono (outside_setFlag _ s) (by decide)
  dsimp only
  split
  · exact outside_trans h (outside_faultLine l _)
  · exact outside_step (outside_modifyLine l _ _) (by decide) h

theorem outside_setSuspect (l : LineNo) (k : FaultKind) (bit : Nat) (on : Bool) (s : State) :
    Outside [.lines] s (s.setSuspect l k bit on) :=
  outside_modifyLine l _ s

theorem outside_markFault (k : FaultKind) (z : Nat) (s : State) : Outside [.faults] s (s.markFault k z) := by
  unfold State.markFault
  split <;> exact outside_faults s _

/-- What the reports of a POLL touch. -/
abbrev pollPieces : List Piece := [.lines, .faults, .events, .accrued]

theorem outside_testChannel (l : LineNo) (p k : Nat) (kind : FaultKind) (reported : Bool) (s : State) :
    Outside pollPieces s (s.testChannel l p k kind reported) := by
  unfold State.testChannel
  have h : ∀ bit on, Outside pollPieces s (s.setSuspect l kind bit on) := fun bit on =>
    outside_mono (outside_setSuspect l kind bit on s) (by decide)
  split
  · exact outside_refl _ s
  · split
    · exact outside_refl _ s
    · dsimp only
      split
      · exact h _ _
      · refine outside_step (outside_modifyLine l _ _) (by decide) ?_
        refine outside_step (outside_addEvent _ _ _ _) (by decide) ?_
        exact outside_step (outside_markFault _ _ _) (by decide) (h _ _)
      · exact h _ _
      · exact outside_refl _ s

theorem outside_testPosition (l : LineNo) (r : PollReport) (p : Nat) (s : State) :
    Outside pollPieces s (s.testPosition l r p) := by
  unfold State.testPosition
  exact outside_foldl (fun t _ => outside_trans (outside_testChannel l p _ _ _ t) (outside_testChannel l p _ _ _ _)) _ s

theorem outside_testHot (l : LineNo) (p : Nat) (reported : Bool) (s : State) :
    Outside pollPieces s (s.testHot l p reported) := by
  unfold State.testHot
  have h : ∀ f, Outside pollPieces s (s.modifyLine l f) := fun f => outside_mono (outside_modifyLine l f s) (by decide)
  split
  · refine outside_step (outside_addEvent _ _ _ _) (by decide) ?_
    exact outside_step (outside_markChannels l _ _) (by decide) (h _)
  · exact outside_step (outside_markChannels l _ _) (by decide) (h _)
  · exact outside_refl _ s
  · exact outside_refl _ s

theorem outside_testFrameError (l : LineNo) (p : Nat) (reported : Bool) (s : State) :
    Outside [.lines] s (s.testFrameError l p reported) := by
  unfold State.testFrameError
  exact outside_ite (outside_markChannels l _ s) (outside_refl _ s)

theorem outside_actOnPoll (l : LineNo) (bytes : List Byte) (s : State) : Outside pollPieces s (s.actOnPoll l bytes) := by
  unfold State.actOnPoll
  dsimp only
  refine outside_step (outside_foldl (fun t _ => outside_testFrameError l _ _ t) _ _) (by decide) ?_
  refine outside_step (outside_foldl (fun t _ => outside_testHot l _ _ t) _ _) (by decide) ?_
  exact outside_foldl (fun t _ => outside_testPosition l _ _ t) _ s

theorem outside_lineRuns (l : LineNo) (s : State) : Outside [.lines, .events, .accrued] s (s.lineRuns l) := by
  unfold State.lineRuns
  exact outside_step (outside_addEvent _ _ _ _) (by decide) (outside_mono (outside_modifyLine l _ s) (by decide))

/-- What the success of a frame touches. -/
abbrev framePieces : List Piece := [.lines, .faults, .protection, .events, .accrued]

theorem outside_frameSucceeds (l : LineNo) (f : Frame) (bytes : List Byte) (s : State) :
    Outside framePieces s (s.frameSucceeds l f bytes) := by
  unfold State.frameSucceeds
  have h : Outside framePieces s (s.modifyLine l fun x => { x with inFlight := none, failures := 0 }) :=
    outside_mono (outside_modifyLine l _ s) (by decide)
  dsimp only
  split
  · split
    · exact outside_step (outside_lineRuns l _) (by decide) h
    · exact h
  · exact h
  · refine outside_step (outside_powerDownTest _) (by decide) ?_
    exact outside_step (outside_modifyLine l _ _) (by decide) h
  · exact outside_step (outside_actOnPoll l bytes _) (by decide) h

theorem outside_lineStarts (l : LineNo) (s : State) : Outside powerPieces s (s.lineStarts l) := by
  unfold State.lineStarts
  have h : Outside powerPieces s (s.modifyLine l fun x => { x with state := .starting, stateTimer := .stopped }) :=
    outside_mono (outside_modifyLine l _ s) (by decide)
  dsimp only
  split
  · split
    · refine outside_step (outside_setBacklight _ _) (by decide) ?_
      exact outside_step (outside_setSequencer _ _ _) (by decide) h
    · exact h
  all_goals exact h

theorem outside_retryLine (l : LineNo) (s : State) : Outside [.lines] s (s.retryLine l) := by
  unfold State.retryLine
  exact outside_ite (outside_startOrder l s) (outside_modifyLine l _ s)

/-! ### Protection -/

theorem outside_setThermal (x : Thermal) (s : State) : Outside [.protection, .events, .accrued] s (s.setThermal x) := by
  unfold State.setThermal
  split
  · exact outside_refl _ s
  · exact outside_step (outside_addEvent _ _ _ _) (by decide) (outside_mono (outside_protection s _) (by decide))

theorem outside_setCoolDown (n : Nat) (s : State) : Outside [.protection] s (s.setCoolDown n) := outside_protection s _

theorem outside_powerUpOrOff (s : State) : Outside powerPieces s s.powerUpOrOff := by
  unfold State.powerUpOrOff
  split
  · exact outside_powerUpBegin s
  · exact outside_step (outside_setBacklight _ _) (by decide) (outside_mono (outside_setTarget false s) (by decide))

theorem outside_enterShutdown (s : State) : Outside powerPieces s s.enterShutdown := by
  unfold State.enterShutdown
  have h : Outside powerPieces s ((s.setThermal .shutdown).setCoolDown 0) :=
    outside_step (outside_setCoolDown _ _) (by decide) (outside_mono (outside_setThermal _ s) (by decide))
  have k : ∀ x b, Outside powerPieces s
      (State.setBacklight b { (s.setThermal .shutdown).setCoolDown 0 with protection := x }) := fun x b =>
    outside_step (outside_setBacklight b _) (by decide)
      (outside_step (outside_protection ((s.setThermal .shutdown).setCoolDown 0) x) (by decide) h)
  dsimp only
  split
  · refine outside_step (outside_forLines outside_stopOrder _) (by decide) ?_
    exact outside_step (outside_setSequencer _ _ _) (by decide) (k _ _)
  · exact k _ _

theorem outside_leaveShutdown (s : State) : Outside powerPieces s s.leaveShutdown := by
  unfold State.leaveShutdown
  have h : ∀ x, Outside powerPieces s ((s.setThermal x).setCoolDown 0) := fun x =>
    outside_step (outside_setCoolDown _ _) (by decide) (outside_mono (outside_setThermal _ s) (by decide))
  dsimp only
  generalize (if s.limits.warm ≤ boardTemp s.protection.codes + s.limits.thermalHysteresis then Thermal.warm
    else Thermal.normal) = x
  split
  · split
    · exact outside_step (outside_powerUpOrOff _) (by decide) (h _)
    · exact outside_step (outside_setBacklight _ _) (by decide) (h _)
  · exact h _

theorem outside_evalThermal (s : State) : Outside powerPieces s s.evalThermal := by
  unfold State.evalThermal
  have k : ∀ x, Outside powerPieces s (s.setThermal x) := fun x => outside_mono (outside_setThermal x s) (by decide)
  have c : ∀ n, Outside powerPieces s (s.setCoolDown n) := fun n => outside_mono (outside_setCoolDown n s) (by decide)
  split
  · exact outside_ite (outside_ite (outside_leaveShutdown s) (c _)) (c 0)
  all_goals
    split
    · exact outside_enterShutdown s
    all_goals exact k _

theorem outside_evalSupply (s : State) : Outside [.protection, .events, .accrued] s s.evalSupply := by
  unfold State.evalSupply
  dsimp only
  split
  · exact outside_refl _ s
  · refine outside_step (outside_setFlagIf _ _ _) (by decide) ?_
    exact outside_step (outside_addEvent _ _ _ _) (by decide) (outside_mono (outside_protection s _) (by decide))

/-- What a millisecond sample touches. -/
abbrev samplePieces : List Piece := [.ms, .scan, .lines, .protection, .events, .accrued]

theorem outside_sample (c : SampleSet) (s : State) : Outside samplePieces s (s.sample c) := by
  unfold State.sample
  dsimp only
  refine outside_step (outside_settleCeiling _ _) (by decide) ?_
  refine outside_step (outside_evalSupply _) (by decide) ?_
  refine outside_step (outside_evalThermal _) (by decide) ?_
  refine outside_step (outside_protection s.tickMs _) (by decide) ?_
  exact outside_mono (outside_tickMs s) (by decide)

theorem outside_tripNow (s : State) : Outside [.protection, .events, .accrued] s s.tripNow := by
  unfold State.tripNow
  dsimp only
  refine outside_step (outside_addEvent _ _ _ _) (by decide) ?_
  exact outside_step (outside_setFlag _ _) (by decide) (outside_mono (outside_protection s _) (by decide))

theorem outside_ocSample (asserted : Bool) (s : State) : Outside powerPieces s (s.ocSample asserted) := by
  unfold State.ocSample
  have h : Outside powerPieces s s.tickUs := outside_mono (outside_tickUs s) (by decide)
  split
  · exact outside_step (outside_tripNow _) (by decide) h
  · exact outside_step (outside_protection s.tickUs _) (by decide) h

theorem outside_clearLatchedOff (s : State) : Outside powerPieces s s.clearLatchedOff := by
  unfold State.clearLatchedOff
  dsimp only
  have h : Outside powerPieces s { s with protection := { s.protection with shutdownHistory := [] } } :=
    outside_mono (outside_protection s _) (by decide)
  split
  · exact outside_step (outside_setBacklight _ _) (by decide) h
  · split
    · exact outside_step (outside_setBacklight _ _) (by decide) h
    · exact outside_step (outside_powerUpOrOff _) (by decide) h

theorem outside_clearProtection (s : State) : Outside powerPieces s s.clearProtection.1 := by
  unfold State.clearProtection
  dsimp only
  have a : Outside powerPieces s (if (s.protection.backlight == .latchedOff) = true then s.clearLatchedOff else s) :=
    outside_ite (outside_clearLatchedOff s) (outside_refl _ s)
  generalize (if (s.protection.backlight == .latchedOff) = true then s.clearLatchedOff else s) = t at a ⊢
  have b : Outside powerPieces s (if s.protection.trip.isSome = true then t.releaseTrip else t) :=
    outside_ite (outside_step (outside_releaseTrip _) (by decide) a) a
  generalize (if s.protection.trip.isSome = true then t.releaseTrip else t) = u at b ⊢
  exact outside_ite (outside_step (outside_protection u _) (by decide) b) b

/-! ### The ring and the tables -/

theorem outside_answer (data : List Injected) (a : Answer) (s : State) :
    Outside [.ring, .freeCount] s (s.answer data a) := by
  unfold State.answer
  split
  · exact outside_refl _ s
  · intro p hp
    cases p <;> first
      | rfl
      | exact absurd (by decide) hp

theorem outside_beginCommand (snap : BitVec 1024) (s : State) : Outside [.ring] s (s.beginCommand snap) :=
  outside_ring s _

theorem outside_offerNext (s : State) : Outside [.link, .ring] s s.offerNext := by
  unfold State.offerNext
  split
  · exact outside_refl _ s
  · split
    · exact outside_refl _ s
    · split
      · intro p hp
        cases p <;> first
          | rfl
          | exact absurd (by decide) hp
      · exact outside_refl _ s

theorem outside_runCommand {ps : List Piece} (hr : Piece.ring ∈ ps) (hf : Piece.freeCount ∈ ps) (r : Row)
    {body : BitVec 1024 → State → State} (h : ∀ snap t, Outside ps t (body snap t)) (s : State) :
    Outside ps s (s.runCommand r body) := by
  have b : ∀ snap, Outside ps s (s.beginCommand snap) := fun snap =>
    outside_mono (outside_beginCommand snap s) (by simpa using hr)
  unfold State.runCommand
  split
  · exact outside_refl _ s
  · split
    · split
      · exact outside_step (outside_answer _ _ _) (by simpa using ⟨hr, hf⟩) (b _)
      · exact outside_trans (b _) (h _ _)
    · exact outside_refl _ s

theorem outside_setTableState (id : TableId) (x : TableState) (s : State) :
    Outside [.tables, .lines] s (s.setTableState id x) := by
  unfold State.setTableState
  exact outside_step (outside_settleCeiling _ _) (by decide) (outside_mono (outside_tables s _) (by decide))

theorem outside_setLoad (l : Load) (offers : List Injected) (s : State) : Outside [.ring] s (s.setLoad l offers) := by
  unfold State.setLoad
  split
  · exact outside_refl _ s
  · exact outside_ring s _

/-- What a load touches. -/
abbrev loadPieces : List Piece := [.tables, .lines, .events, .accrued, .ring, .freeCount]

theorem outside_beginLoad (l : Load) (s : State) : Outside loadPieces s (s.beginLoad l) := by
  unfold State.beginLoad
  exact outside_step (outside_setLoad _ _ _) (by decide) (outside_mono (outside_setTableState _ _ s) (by decide))

theorem outside_failLoad (t : TableId) (a : Answer) (s : State) : Outside loadPieces s (s.failLoad t a) := by
  unfold State.failLoad
  refine outside_step (outside_answer _ _ _) (by decide) ?_
  exact outside_step (outside_addEvent _ _ _ _) (by decide) (outside_mono (outside_setTableState _ _ s) (by decide))

theorem outside_passLoad (l : Load) (s : State) : Outside loadPieces s (s.passLoad l) := by
  unfold State.passLoad
  exact outside_step (outside_answer _ _ _) (by decide) (outside_mono (outside_setTableState _ _ s) (by decide))

theorem outside_endLoad (l : Load) (crc : BitVec 16) (s : State) : Outside loadPieces s (s.endLoad l crc) := by
  unfold State.endLoad
  split
  · split
    · split
      · exact outside_failLoad _ _ s
      · exact outside_passLoad l s
    · exact outside_passLoad l s
  · exact outside_failLoad _ _ s

theorem outside_takeFetchBeat (c : Command) (l : Load) (b : Nat) (crc : BitVec 16) (kept data : Beat) (s : State) :
    Outside loadPieces s (s.takeFetchBeat c l b crc kept data) := by
  unfold State.takeFetchBeat
  have h : ∀ x, Outside loadPieces s { s with tables := x } := fun x => outside_mono (outside_tables s x) (by decide)
  dsimp only
  split
  · exact outside_step (outside_endLoad l _ _) (by decide) (h _)
  · exact outside_step (outside_setLoad _ _ _) (by decide) (h _)

theorem outside_fetchBeat (id : TableId) (data : Beat) (s : State) : Outside loadPieces s (s.fetchBeat id data) := by
  unfold State.fetchBeat
  split
  · exact outside_refl _ s
  · split
    · exact outside_refl _ s
    · split
      · exact outside_refl _ s
      · exact outside_ite (outside_takeFetchBeat _ _ _ _ _ _ s) (outside_refl _ s)

theorem outside_fetchReturn (p : Purpose) (data : Beat) (s : State) : Outside loadPieces s (s.fetchReturn p data) := by
  unfold State.fetchReturn
  split
  · exact outside_fetchBeat _ data s
  · exact outside_refl _ s
  · exact outside_refl _ s

theorem outside_stallRing (q : List Injected) (s : State) : Outside loadPieces s (s.stallRing q) := by
  unfold State.stallRing
  split
  · exact outside_refl _ s
  · split
    · split
      · exact outside_failLoad _ _ s
      · exact outside_refl _ s
    · exact outside_mono (outside_ring s _) (by decide)

/-- What the loss of the downstream link touches. -/
abbrev downPieces : List Piece := [.link, .tables, .lines, .events, .accrued, .ring, .freeCount]

theorem outside_downstreamDown (s : State) : Outside downPieces s s.downstreamDown := by
  unfold State.downstreamDown
  exact outside_step (outside_stallRing _ _) (by decide) (outside_mono (outside_link s _) (by decide))

theorem outside_returnUpstream (c : ReadClass) (data : Beat) (s : State) :
    Outside [.link, .accrued] s (s.returnUpstream c data) := by
  unfold State.returnUpstream
  split
  · exact outside_step (outside_setFlagIf _ _ _) (by decide) (outside_mono (outside_link s _) (by decide))
  · exact outside_refl _ s

theorem outside_routeReturn (t : Tracked) (rest : List Tracked) (data : Beat) (s : State) :
    Outside downPieces s (s.routeReturn t rest data) := by
  unfold State.routeReturn
  have h : ∀ x, Outside downPieces s { s with link := x } := fun x => outside_mono (outside_link s x) (by decide)
  dsimp only
  split
  · exact outside_step (outside_returnUpstream _ data _) (by decide) (h _)
  · exact outside_step (outside_fetchReturn _ data _) (by decide) (h _)

theorem outside_endCommand (s : State) : Outside [.ring] s s.endCommand := outside_ring s _

theorem outside_sendNext (s : State) : Outside [.link, .ring] s s.sendNext := by
  have h : ∀ x, Outside [.link, .ring] s { s with link := x } := fun x => outside_mono (outside_link s x) (by decide)
  unfold State.sendNext
  split
  · exact outside_refl _ s
  · exact outside_ite (outside_refl _ s) (h _)
  · split
    · exact outside_refl _ s
    · dsimp only
      split
      · exact outside_step (outside_endCommand _) (by decide) (h _)
      · exact h _
      · exact h _

/-! ### Commands of the control region -/

theorem outside_describeWindow (w : WindowNo) (x : Window) (s : State) :
    Outside [.windows, .buffers] s (s.describeWindow w x) := by
  intro p hp
  cases p <;> first
    | rfl
    | exact absurd (by decide) hp

theorem outside_releaseBuffer (w : WindowNo) (s : State) : Outside [.queue, .banks, .engine] s (s.releaseBuffer w) := by
  unfold State.releaseBuffer
  split
  · exact outside_mono (outside_emptyBank _ s) (by decide)
  · exact outside_step (outside_emptyBank _ _) (by decide) (outside_mono (outside_unqueue w s) (by decide))
  · exact outside_step (outside_emptyBank _ _) (by decide) (outside_mono (outside_abortAnalysis s) (by decide))
  all_goals exact outside_refl _ s

/-- What WINDOW_OFF touches beside the ring. -/
abbrev windowOffPieces : List Piece := [.windows, .buffers, .queue, .banks, .engine, .scan]

theorem outside_disableWindow (w : WindowNo) (s : State) : Outside windowOffPieces s (s.disableWindow w) := by
  unfold State.disableWindow
  dsimp only
  have h : Outside windowOffPieces s (s.releaseBuffer w) := outside_mono (outside_releaseBuffer w s) (by decide)
  have k : Outside windowOffPieces s
      (if (s.releaseBuffer w).scan.pointer = some w then (s.releaseBuffer w).endScan else s.releaseBuffer w) :=
    outside_ite (outside_step (outside_endScan _) (by decide) h) h
  generalize (if (s.releaseBuffer w).scan.pointer = some w then (s.releaseBuffer w).endScan else s.releaseBuffer w) = u at k ⊢
  refine outside_step (outside_windows (u.setBuffer w _) _) (by decide) ?_
  exact outside_step (outside_setBuffer w _ u) (by decide) k

/-- What SET_GRID touches beside the ring. -/
abbrev gridPieces : List Piece := [.engine, .grid, .banks, .history, .drive, .scan, .faults, .tables, .lines]

theorem outside_replaceGrid (g : Grid) (s : State) : Outside gridPieces s (s.replaceGrid g) := by
  unfold State.replaceGrid
  refine outside_step (outside_forLines (fun l t => outside_modifyLine l clearSuspects t) _) (by decide) ?_
  intro p hp
  cases p <;> first
    | rfl
    | exact absurd (by decide) hp

theorem outside_backlightOff (s : State) : Outside powerPieces s s.backlightOff := by
  unfold State.backlightOff
  have h : Outside powerPieces s (s.setTarget false) := outside_mono (outside_setTarget _ s) (by decide)
  dsimp only
  split
  · exact h
  · exact outside_trans h (outside_powerDownBegin _)
  · exact outside_trans h (outside_powerDownBegin _)
  · exact h
  · exact outside_step (outside_setBacklight _ _) (by decide) h
  · exact h

theorem outside_clearLine (l : LineNo) (s : State) : Outside [.lines] s (s.clearLine l) := by
  unfold State.clearLine
  have h : ∀ f, Outside [.lines] s (s.modifyLine l f) := fun f => outside_modifyLine l f s
  dsimp only
  split
  · split
    · refine outside_step (outside_startOrder l _) (by decide) ?_
      exact outside_step (outside_modifyLine l _ _) (by decide) (h _)
    · exact outside_step (outside_modifyLine l _ _) (by decide) (h _)
  · exact h _

theorem outside_clearZones (s : State) : Outside [.faults, .lines] s s.clearZones := by
  unfold State.clearZones
  refine outside_step (outside_forLines (fun l t => outside_modifyLine l clearZonesLine t) _) (by decide) ?_
  exact outside_mono (outside_faults s _) (by decide)

end Sys2Proof.Laws
end

