-- ==== Sys2Proof/Laws/Table.lean ====
section
/-! SUPPORT. Reading a store by zone after it is written: a read after a write to the same place gives the value written, a
write leaves every other place alone, and equal contents are equal data. -/

namespace Sys2Proof.Machine

theorem cellsGet_of_lt {α : Type} (d : α) (i : Nat) (l : List (Nat × α)) (h : ∀ c ∈ l, i < c.1) : cellsGet d l i = d := by
  induction l with
  | nil => rfl
  | cons a rest ih =>
    obtain ⟨k, w⟩ := a
    have hk : i < k := h (k, w) (by simp)
    simp only [cellsGet]
    rw [if_neg (by omega)]
    exact ih fun c hc => h c (by simp [hc])

theorem cellsGet_cellsSet {α : Type} [DecidableEq α] (d : α) (i j : Nat) (v : α) (l : List (Nat × α))
    (h : l.Pairwise (fun a b => a.1 < b.1)) : cellsGet d (cellsSet d i v l) j = if j = i then v else cellsGet d l j := by
  induction l with
  | nil =>
    simp only [cellsSet]
    split
    · rename_i hv
      split <;> simp_all [cellsGet]
    · simp only [cellsGet]
      by_cases hj : i = j <;> simp [hj, eq_comm]
  | cons a rest ih =>
    obtain ⟨k, w⟩ := a
    rw [List.pairwise_cons] at h
    obtain ⟨hk, hr⟩ := h
    have tail : ∀ m, m ≤ k → cellsGet d rest m = d := fun m hm =>
      cellsGet_of_lt d m rest fun c hc => lt_of_le_of_lt hm (hk c hc)
    simp only [cellsSet]
    split
    · rename_i hlt
      split
      · rename_i hv
        by_cases hj : j = i
        · subst hj
          simp only [cellsGet, if_true]
          rw [if_neg (by omega), tail j (by omega), hv]
        · rw [if_neg hj]
      · by_cases hj : i = j
        · subst hj
          simp [cellsGet]
        · simp [cellsGet, hj, Ne.symm hj]
    · split
      · rename_i hle heq
        subst heq
        split
        · rename_i hv
          by_cases hj : j = i
          · subst hj
            rw [if_pos rfl, tail j le_rfl, hv]
          · rw [if_neg hj]
            simp only [cellsGet]
            rw [if_neg (fun e => hj e.symm)]
        · simp only [cellsGet]
          by_cases hj : i = j
          · simp [hj]
          · rw [if_neg hj, if_neg (fun e => hj e.symm), if_neg hj]
      · rename_i hle hne
        simp only [cellsGet]
        by_cases hj : k = j
        · subst hj
          rw [if_pos rfl, if_neg (fun e => hne e.symm), if_pos rfl]
        · rw [if_neg hj, if_neg hj]
          exact ih hr

theorem cellsGet_cellsOf {α : Type} [DecidableEq α] (d : α) (n : Nat) (f : Nat → α) (j : Nat) :
    cellsGet d (cellsOf d n f) j = if j < n then f j else d := by
  have main : ∀ (m lo : Nat),
      cellsGet d (((List.range' lo m).map fun i => (i, f i)).filter fun c => decide (c.2 ≠ d)) j
        = if lo ≤ j ∧ j < lo + m then f j else d := by
    intro m
    induction m with
    | zero =>
      intro lo
      rw [if_neg (by omega)]
      rfl
    | succ m ih =>
      intro lo
      simp only [List.range'_succ, List.map_cons, List.filter_cons]
      have ih' := ih (lo + 1)
      by_cases hf : f lo = d
      · rw [if_neg (by simp [hf]), ih']
        by_cases hj : j = lo
        · subst hj
          rw [if_neg (by omega), if_pos (by omega), hf]
        · by_cases hb : lo + 1 ≤ j ∧ j < lo + 1 + m
          · rw [if_pos hb, if_pos (by omega)]
          · rw [if_neg hb, if_neg (by omega)]
      · rw [if_pos (by simp [hf])]
        simp only [cellsGet]
        by_cases hj : lo = j
        · subst hj
          rw [if_pos rfl, if_pos (by omega)]
        · rw [if_neg hj, ih']
          by_cases hb : lo + 1 ≤ j ∧ j < lo + 1 + m
          · rw [if_pos hb, if_pos (by omega)]
          · rw [if_neg hb, if_neg (by omega)]
  have h0 := main n 0
  rw [← List.range_eq_range'] at h0
  simpa [cellsOf] using h0

@[simp] theorem ZoneTable.get_empty {α : Type} {d : α} (i : Nat) : (ZoneTable.empty : ZoneTable α d).get i = d := rfl

/-- One write and one read of a store. -/
theorem ZoneTable.get_set {α : Type} [DecidableEq α] {d : α} (t : ZoneTable α d) (i : Nat) (v : α) (j : Nat) :
    (t.set i v).get j = if j = i then v else t.get j :=
  cellsGet_cellsSet d i j v t.cells t.rising

@[simp] theorem ZoneTable.get_set_same {α : Type} [DecidableEq α] {d : α} (t : ZoneTable α d) (i : Nat) (v : α) :
    (t.set i v).get i = v := by
  rw [ZoneTable.get_set, if_pos rfl]

theorem ZoneTable.get_set_ne {α : Type} [DecidableEq α] {d : α} (t : ZoneTable α d) (i : Nat) (v : α) {j : Nat}
    (h : j ≠ i) : (t.set i v).get j = t.get j := by
  rw [ZoneTable.get_set, if_neg h]

/-- The store of a function reads as the function below its bound. -/
theorem ZoneTable.get_ofFn {α : Type} [DecidableEq α] {d : α} (n : Nat) (f : Nat → α) (i : Nat) :
    (ZoneTable.ofFn n f : ZoneTable α d).get i = if i < n then f i else d :=
  cellsGet_cellsOf d n f i

theorem cells_ext {α : Type} (d : α) : ∀ (l m : List (Nat × α)),
    l.Pairwise (fun a b => a.1 < b.1) → m.Pairwise (fun a b => a.1 < b.1) → (∀ c ∈ l, c.2 ≠ d) → (∀ c ∈ m, c.2 ≠ d) →
    (∀ i, cellsGet d l i = cellsGet d m i) → l = m := by
  intro l
  induction l with
  | nil =>
    intro m _ _ _ hm h
    cases m with
    | nil => rfl
    | cons b rest =>
      have := h b.1
      simp only [cellsGet, if_true] at this
      exact absurd this.symm (hm b (by simp))
  | cons a l ih =>
    intro m hl hm dl dm h
    cases m with
    | nil =>
      have := h a.1
      simp only [cellsGet, if_true] at this
      exact absurd this (dl a (by simp))
    | cons b m =>
      obtain ⟨k, v⟩ := a
      obtain ⟨j, w⟩ := b
      rw [List.pairwise_cons] at hl hm
      have hv : v ≠ d := dl (k, v) (by simp)
      have hw : w ≠ d := dm (j, w) (by simp)
      have hkj : k = j := by
        rcases Nat.lt_trichotomy k j with hlt | heq | hgt
        · have e := h k
          rw [cellsGet_of_lt d k ((j, w) :: m) (by
            intro c hc
            rcases List.mem_cons.1 hc with rfl | hc
            · exact hlt
            · exact lt_trans hlt (hm.1 c hc))] at e
          simp only [cellsGet, if_true] at e
          exact absurd e hv
        · exact heq
        · have e := h j
          rw [cellsGet_of_lt d j ((k, v) :: l) (by
            intro c hc
            rcases List.mem_cons.1 hc with rfl | hc
            · exact hgt
            · exact lt_trans hgt (hl.1 c hc))] at e
          simp only [cellsGet, if_true] at e
          exact absurd e.symm hw
      subst hkj
      have hvw : v = w := by simpa [cellsGet] using h k
      subst hvw
      congr 1
      refine ih m hl.2 hm.2 (fun c hc => dl c (by simp [hc])) (fun c hc => dm c (by simp [hc])) fun i => ?_
      by_cases hi : k = i
      · subst hi
        rw [cellsGet_of_lt d k l hl.1, cellsGet_of_lt d k m hm.1]
      · simpa [cellsGet, hi] using h i

/-- Equal contents are equal data. -/
theorem ZoneTable.ext_get {α : Type} {d : α} (t u : ZoneTable α d) (h : ∀ i, t.get i = u.get i) : t = u := by
  have : t.cells = u.cells := cells_ext d t.cells u.cells t.rising u.rising t.listed u.listed h
  cases t
  cases u
  simpa using this

end Sys2Proof.Machine
end

