-- ==== Sys2Proof/Laws/Values.lean ====
section
/-! SUPPORT. What each shared operation leaves in the pieces it touches: one lemma per operation and piece. With `Frames`,
which says what each leaves alone, a proof about a command need not unfold the operations it is made of. -/

namespace Sys2Proof.Laws

open Sys2Proof Sys2Proof.Machine Sys2Proof.Safety

/-! ### Flags and events (R165, R167) -/

theorem flagBit_inj (f g : Flag) (h : flagBit f = flagBit g) : f = g := by
  revert h; cases f <;> cases g <;> decide

theorem flagBit_lt (f : Flag) : flagBit f < 15 := by cases f <;> decide

theorem flag_setFlag (f g : Flag) (s : State) : (s.setFlag f).flag g = (s.flag g || decide (g = f)) := by
  simp only [State.flag, State.setFlag_accrued, BitVec.getLsbD_or, BitVec.getLsbD_twoPow]
  by_cases h : g = f
  · subst h
    simp [flagBit_lt]
  · have : ¬flagBit f = flagBit g := fun e => h (flagBit_inj _ _ e).symm
    simp [h, this]

theorem flag_setFlagIf (c : Bool) (f g : Flag) (s : State) :
    (s.setFlagIf c f).flag g = (s.flag g || (c && decide (g = f))) := by
  cases c
  · simp [State.setFlagIf]
  · simp [State.setFlagIf, flag_setFlag]

theorem events_addEvent (k : EventKind) (x : Subject) (d : Nat) (s : State) :
    (s.addEvent k x d).events = eventsAfter s.events s.ms k x d := rfl

theorem flag_addEvent (k : EventKind) (x : Subject) (d : Nat) (s : State) (g : Flag) :
    (s.addEvent k x d).flag g = (s.flag g || decide (g ∈ overrun s)) := by
  have h : (s.addEvent k x d).flag g = (s.setFlagIf (decide (32 ≤ s.events.length)) .eventOverrun).flag g := rfl
  rw [h, flag_setFlagIf, overrun]
  by_cases hl : 32 ≤ s.events.length <;> simp [hl]

theorem length_eventsAfter (events : List Event) (now : Word) (k : EventKind) (x : Subject) (d : Nat) :
    (eventsAfter events now k x d).length = min events.length 31 + 1 := by
  simp only [eventsAfter, List.length_append, List.length_drop, List.length_cons, List.length_nil]
  omega

/-! ### Lines -/

theorem modifyLine_get (l m : LineNo) (f : Line → Line) (s : State) :
    (s.modifyLine l f).lines[m] = if m = l then f s.lines[l] else s.lines[m] := by
  show (s.lines.set l (f s.lines[l]))[m] = _
  by_cases h : m = l
  · subst h
    simp
  · have : (l : Nat) ≠ m := fun e => h (Fin.ext e.symm)
    simp [h, this]

/-- A change that changes nothing leaves the state as it is. -/
theorem modifyLine_self (l : LineNo) (s : State) (f : Line → Line) (h : f s.lines[l] = s.lines[l]) : s.modifyLine l f = s := by
  unfold State.modifyLine
  rw [h]
  have : s.lines.set l s.lines[l] = s.lines := by
    ext i hi
    rw [Vector.getElem_set]
    split
    · next e => subst e; rfl
    · rfl
  rw [this]

theorem foldl_lines {F : LineNo → State → State} {g : LineNo → Line → Line} (s : State)
    (hF : ∀ l t, (∀ p, p ≠ .lines → Keeps s t p) → F l t = t.modifyLine l (g l)) (ls : List LineNo) (hn : ls.Nodup) (t : State)
    (ht : ∀ p, p ≠ .lines → Keeps s t p) (m : LineNo) :
    let u := ls.foldl (fun t l => F l t) t
    (∀ p, p ≠ .lines → Keeps s u p) ∧ u.lines[m] = if m ∈ ls then g m t.lines[m] else t.lines[m] := by
  induction ls generalizing t with
  | nil => exact ⟨ht, by simp⟩
  | cons l rest ih =>
    obtain ⟨hl, hr⟩ := List.nodup_cons.1 hn
    have hk : ∀ p, p ≠ .lines → Keeps s (F l t) p := by
      rw [hF l t ht]
      exact fun p hp => keeps_trans (ht p hp) (outside_modifyLine l (g l) t p (by simpa using hp))
    obtain ⟨h1, h2⟩ := ih hr (F l t) hk
    refine ⟨h1, ?_⟩
    simp only [List.foldl_cons, List.mem_cons]
    rw [h2, hF l t ht, modifyLine_get]
    by_cases h : m = l
    · subst h
      simp [hl]
    · simp [h]

/-- An operation done on every line in turn, which on each is a change of that line alone. -/
theorem forLines_get {F : LineNo → State → State} {g : LineNo → Line → Line} (s : State)
    (hF : ∀ l t, (∀ p, p ≠ .lines → Keeps s t p) → F l t = t.modifyLine l (g l)) (m : LineNo) :
    (forLines F s).lines[m] = g m s.lines[m] := by
  have := (foldl_lines s hF (List.finRange 16) (List.nodup_finRange 16) s (fun p _ => by cases p <;> rfl) m).2
  simpa [forLines] using this

/-- A state that differs from another in its lines at most. -/
theorem eq_with_lines {s t : State} (h : ∀ p, p ≠ .lines → Keeps s t p) : t = { s with lines := t.lines } := by
  have h1 := h .pending (by decide)
  have h2 := h .resetAsserted (by decide)
  have h3 := h .cfg (by decide)
  have h4 := h .ms (by decide)
  have h5 := h .link (by decide)
  have h6 := h .windows (by decide)
  have h7 := h .buffers (by decide)
  have h8 := h .queue (by decide)
  have h9 := h .grid (by decide)
  have h10 := h .banks (by decide)
  have h11 := h .engine (by decide)
  have h12 := h .history (by decide)
  have h13 := h .results (by decide)
  have h14 := h .drive (by decide)
  have h15 := h .scan (by decide)
  have h16 := h .faults (by decide)
  have h17 := h .protection (by decide)
  have h18 := h .ring (by decide)
  have h19 := h .tables (by decide)
  have h20 := h .events (by decide)
  have h21 := h .accrued (by decide)
  have h22 := h .freeCount (by decide)
  cases t; cases s
  simp only [Keeps] at *
  simp_all

/-- An operation that replaces every line record by `g` of it. -/
theorem forLines_map (g : Line → Line) (s : State) :
    forLines (fun l => State.modifyLine l g) s = { s with lines := s.lines.map g } := by
  have hk := (foldl_lines s (F := fun l => State.modifyLine l g) (g := fun _ => g) (fun l t _ => rfl) (List.finRange 16) (List.nodup_finRange 16) s (fun p _ => by cases p <;> rfl) 0).1
  have hl : (forLines (fun l => State.modifyLine l g) s).lines = s.lines.map g := by
    ext i hi
    have := forLines_get (F := fun l => State.modifyLine l g) (g := fun _ => g) s (fun l t _ => rfl) ⟨i, hi⟩
    simpa using this
  have e := eq_with_lines hk
  rw [show forLines (fun l => State.modifyLine l g) s = List.foldl (fun t l => State.modifyLine l g t) s (List.finRange 16) from rfl] at *
  rw [hl] at e
  exact e

theorem ceilingMark_eq (l : LineNo) (s : State) :
    s.ceilingMark l = s.modifyLine l fun x => if x.state = .running then markedLine (s.driverCount l) x else x := by
  unfold State.ceilingMark
  split
  · next h =>
    have : (if s.lines[l].state = .running then markedLine (s.driverCount l) s.lines[l] else s.lines[l])
        = markedLine (s.driverCount l) s.lines[l] := if_pos h
    unfold State.modifyLine
    simp only [this]
    rfl
  · next h => exact (modifyLine_self l s _ (if_neg h)).symm

/-- A changed duty ceiling marks every RUNNING line (R145, R116). -/
theorem settleCeiling_get (old : Nat) (s : State) (m : LineNo) :
    (s.settleCeiling old).lines[m]
      = if s.ceiling ≠ old ∧ s.lines[m].state = .running then markedLine (s.driverCount m) s.lines[m] else s.lines[m] := by
  unfold State.settleCeiling
  by_cases h : s.ceiling = old
  · simp [h]
  · rw [if_neg h, forLines_get (g := fun l x => if x.state = .running then markedLine (s.driverCount l) x else x)]
    · simp [h]
    · intro l t ht
      rw [ceilingMark_eq]
      have hk : t.tables = s.tables := ht .tables (by decide)
      unfold State.driverCount
      rw [hk]

theorem tickMs_get (s : State) (m : LineNo) : s.tickMs.lines[m] = lineAfterMs s.lines[m] := by
  unfold State.tickMs
  rw [forLines_get (g := fun _ => lineAfterMs)]
  exact fun l t _ => rfl

theorem tickUs_get (s : State) (m : LineNo) : s.tickUs.lines[m] = lineAfterUs s.lines[m] := by
  unfold State.tickUs
  rw [forLines_get (g := fun _ => lineAfterUs)]
  exact fun l t _ => rfl

theorem startOrder_get (l m : LineNo) (s : State) :
    (s.startOrder l).lines[m]
      = if m = l ∧ (s.lines[l].state = .off ∨ s.lines[l].state = .faulted) then startedLine s.limits.slotUs s.lines[l]
        else s.lines[m] := by
  unfold State.startOrder
  by_cases h : s.lines[l].state = .off ∨ s.lines[l].state = .faulted
  · rw [if_pos h, modifyLine_get]
    by_cases hm : m = l
    · rw [if_pos hm, if_pos ⟨hm, h⟩]
      rfl
    · rw [if_neg hm, if_neg (fun e => hm e.1)]
  · rw [if_neg h, if_neg (fun e => h e.2)]

theorem stoppedLine_eq (x : Line) :
    { abandonFrame x with state := .off, stateTimer := .stopped, pollTimer := .stopped } = stoppedLine x := by
  unfold abandonFrame stoppedLine
  rcases hf : x.inFlight with _ | f
  · simp [hf]
  · cases hk : f.kind <;> simp [hk]

theorem stopOrder_get (l m : LineNo) (s : State) :
    (s.stopOrder l).lines[m]
      = if m = l ∧ s.lines[l].state ≠ .off ∧ s.lines[l].state ≠ .locked then stoppedLine s.lines[l] else s.lines[m] := by
  unfold State.stopOrder
  by_cases h : s.lines[l].state = .off ∨ s.lines[l].state = .locked
  · rw [if_pos h, if_neg (fun e => not_or.2 e.2 h)]
  · rw [if_neg h, modifyLine_get, stoppedLine_eq]
    by_cases hm : m = l
    · rw [if_pos hm, if_pos ⟨hm, not_or.1 h⟩]
    · rw [if_neg hm, if_neg (fun e => hm e.1)]

/-! ### The Zone Drive Table (R79, R80, R87) -/

theorem drive_writeDrive (z : Nat) (e : DriveEntry) (s : State) : (s.writeDrive z e).drive = s.drive.set z e := by
  unfold State.writeDrive
  dsimp only
  split
  · exact outside_markZone z _ .drive (by decide)
  · rfl

theorem foldl_writeDrive (f : Nat → Nat) (e : Nat → DriveEntry) (ns : List Nat) (s : State) (z : Nat) :
    (ns.foldl (fun t n => t.writeDrive (f n) (e (f n))) s).drive.get z
      = if ∃ n ∈ ns, f n = z then e z else s.drive.get z := by
  induction ns generalizing s with
  | nil => simp
  | cons n rest ih =>
    rw [List.foldl_cons, ih, drive_writeDrive, ZoneTable.get_set]
    by_cases h : ∃ k ∈ rest, f k = z
    · have h1 : ∃ k ∈ n :: rest, f k = z := by
        obtain ⟨k, hk, hz⟩ := h
        exact ⟨k, List.mem_cons_of_mem _ hk, hz⟩
      rw [if_pos h, if_pos h1]
    · rw [if_neg h]
      by_cases hz : f n = z
      · have h1 : ∃ k ∈ n :: rest, f k = z := ⟨n, List.mem_cons_self, hz⟩
        rw [if_pos h1, if_pos hz.symm, hz]
      · have h1 : ¬∃ k ∈ n :: rest, f k = z := by
          rintro ⟨k, hk, hk'⟩
          rcases List.mem_cons.1 hk with e | hk
          · exact hz (e ▸ hk')
          · exact h ⟨k, hk, hk'⟩
        rw [if_neg h1, if_neg (fun e => hz e.symm)]

theorem commitRow_get (k : SlotNo) (row : Nat) (s : State) (z : Nat) :
    (s.commitRow k row).drive.get z
      = if row * s.grid.columns ≤ z ∧ z < (row + 1) * s.grid.columns then s.results[k].entry z else s.drive.get z := by
  unfold State.commitRow
  rw [foldl_writeDrive (fun c => row * s.grid.columns + c) (fun i => s.results[k].entry i)]
  have : (∃ n ∈ List.range s.grid.columns, row * s.grid.columns + n = z)
      ↔ row * s.grid.columns ≤ z ∧ z < (row + 1) * s.grid.columns := by
    rw [Nat.succ_mul]
    constructor
    · rintro ⟨n, hn, rfl⟩
      have := List.mem_range.1 hn
      omega
    · rintro ⟨h1, h2⟩
      exact ⟨z - row * s.grid.columns, List.mem_range.2 (by omega), by omega⟩
  simp only [this]

/-- Rows `lo` to `hi - 1` of the result are in the table, and no other entry has changed (R87). -/
theorem commitRows_get (k : SlotNo) (lo hi : Nat) (s : State) (z : Nat) :
    (s.commitRows k lo hi).drive.get z
      = if lo * s.grid.columns ≤ z ∧ z < hi * s.grid.columns then s.results[k].entry z else s.drive.get z := by
  unfold State.commitRows
  have key : ∀ (n lo : Nat) (t : State), t.grid = s.grid → t.results = s.results →
      ((List.range' lo n).foldl (fun t row => t.commitRow k row) t).drive.get z
        = if lo * s.grid.columns ≤ z ∧ z < (lo + n) * s.grid.columns then s.results[k].entry z else t.drive.get z := by
    intro n
    induction n with
    | zero =>
      intro lo t _ _
      have : ¬(lo * s.grid.columns ≤ z ∧ z < (lo + 0) * s.grid.columns) := by simp
      rw [if_neg this]
      rfl
    | succ n ih =>
      intro lo t hg hr
      have ho := outside_commitRow k lo t
      rw [List.range'_succ, List.foldl_cons, ih (lo + 1) (t.commitRow k lo) ((ho .grid (by decide)).trans hg)
        ((ho .results (by decide)).trans hr), commitRow_get, hg, hr]
      have e1 : (lo + 1) * s.grid.columns = lo * s.grid.columns + s.grid.columns := Nat.succ_mul _ _
      have e2 : (lo + 1 + n) * s.grid.columns = lo * s.grid.columns + s.grid.columns + n * s.grid.columns := by ring
      have e3 : (lo + (n + 1)) * s.grid.columns = lo * s.grid.columns + s.grid.columns + n * s.grid.columns := by ring
      rw [e1, e2, e3]
      split_ifs <;> first | rfl | omega
  rw [key (hi - lo) lo s rfl rfl]
  by_cases h : lo ≤ hi
  · rw [Nat.add_sub_cancel' h]
  · have h1 : hi - lo = 0 := by omega
    have h2 : hi * s.grid.columns ≤ lo * s.grid.columns := Nat.mul_le_mul_right _ (by omega)
    rw [h1]
    rw [if_neg (by simp), if_neg (by omega)]

/-! ### The ring (R152 to R154) -/

theorem controlBase_eq (s : State) : s.controlBase = s.cfg.toNat * 0x04000000 + 0x03FFF000 := by
  show (s.cfg ++ 0x3FFF000#26).toNat = _
  generalize s.cfg = c
  revert c
  decide

/-- A command that is ready and passes its header check runs its body on the state in which it has begun. -/
theorem runCommand_body (r : Row) (body : BitVec 1024 → State → State) (s : State) (snap : BitVec 1024)
    (h : canBegin s snap) (ha : r.accepts snap = true) (hh : headerCheck snap = none) :
    s.runCommand r body = body snap (s.beginCommand snap) := by
  obtain ⟨h1, h2, h3, h4, h5⟩ := h
  simp [State.runCommand, State.readyCommand, h1, h2, h3, h4, h5, ha, hh]

/-- A command that is ready and fails its header check is answered. -/
theorem runCommand_header (r : Row) (body : BitVec 1024 → State → State) (s : State) (snap : BitVec 1024) (a : Answer)
    (h : canBegin s snap) (ha : r.accepts snap = true) (hh : headerCheck snap = some a) :
    s.runCommand r body = (s.beginCommand snap).answer [] a := by
  obtain ⟨h1, h2, h3, h4, h5⟩ := h
  simp [State.runCommand, State.readyCommand, h1, h2, h3, h4, h5, ha, hh]

/-- A command that is not ready does not come about. -/
theorem runCommand_waits (r : Row) (body : BitVec 1024 → State → State) (s : State)
    (h : s.resetAsserted = true ∨ s.ring.executing ≠ none ∨ s.ring.pendingSlots.getLsbD s.ring.index.val = false
      ∨ s.link.downstream = .down) : s.runCommand r body = s := by
  have : s.readyCommand = none := by
    unfold State.readyCommand
    rw [if_neg]
    rintro ⟨h1, h2, h3, h4⟩
    rcases h with h | h | h | h
    · rw [h] at h1; cases h1
    · exact h h2
    · rw [h] at h3; cases h3
    · rw [h] at h4; cases h4
  simp [State.runCommand, this]

/-- The answer of a command that has begun with the snapshot `snap` and has changed nothing of the ring since. -/
theorem answer_begun (s t : State) (snap : BitVec 1024) (data : List Injected) (a : Answer) (hr : t.ring = begun s snap)
    (hc : t.cfg = s.cfg) :
    t.answer data a
      = { t with
          ring :=
            { begun s snap with
              executing :=
                some
                  { snapshot := snap
                    offers :=
                      data
                        ++ [statusWrite (s.controlBase + 128 * s.ring.index.val + 0x60) (statusWord a (sequenceOf snap))
                            t.freeCount]
                    load := none } }
          freeCount := t.freeCount + 1 } := by
  have he : t.ring.executing = some { snapshot := snap, offers := [], load := none } := by rw [hr]; rfl
  have hi : t.ring.index = s.ring.index := by rw [hr]; rfl
  have hb : t.controlBase = s.controlBase := by unfold State.controlBase; rw [hc]
  unfold State.answer
  rw [he]
  simp only [State.slotBase, hi, hb]
  rw [hr]
  rfl

/-- A command that changes nothing but its answer. -/
theorem answer_beginCommand (s : State) (snap : BitVec 1024) (data : List Injected) (a : Answer) :
    (s.beginCommand snap).answer data a = answered s snap data a :=
  answer_begun s (s.beginCommand snap) snap data a rfl rfl

theorem headerCheck_headed (snap : BitVec 1024) (code block : Nat) (h : headed snap code block)
    (hb : blockSize code = some block) : headerCheck snap = none := by
  obtain ⟨h1, h2, h3⟩ := h
  simp [headerCheck, h1, hb, Nat.not_lt.2 h2, Nat.not_lt.2 h3]

/-! ### Result slots (R77) -/

/-- With no analysis under way and a buffer QUEUED, at most four of the five slots are taken, so a result finds a slot. -/
theorem freeSlot_isSome (s : State) (w : WindowNo) (b : BankNo) (ha : s.engine.analysis = none) (hw : s.buffers[w].state = .queued b) :
    ∃ k, s.freeSlot = some k := by
  by_contra hne
  have h : s.freeSlot = none := by
    rcases hf : s.freeSlot with _ | k
    · rfl
    · exact absurd ⟨k, hf⟩ hne
  unfold State.freeSlot at h
  have h' : ∀ k : SlotNo, s.slotTaken k = true := by
    intro k
    have := List.find?_eq_none.1 h k (List.mem_finRange k)
    simpa using this
  have hcard : (Finset.univ.filter fun k : SlotNo => s.slotTaken k = true).card ≤ 4 := by
    have hsub : (Finset.univ.filter fun k : SlotNo => s.slotTaken k = true)
        ⊆ (((Finset.univ.erase w).image fun v : WindowNo => s.buffers[v].state.result) ∪ {s.scan.result}).biUnion (fun o => o.toFinset) := by
      intro k hk
      have := h' k
      simp only [State.slotTaken, ha, Bool.false_or, Bool.or_eq_true, List.any_eq_true, List.mem_finRange, true_and, beq_iff_eq] at this
      simp only [Finset.mem_biUnion, Finset.mem_union, Finset.mem_image, Finset.mem_erase, Finset.mem_singleton, Option.mem_toFinset]
      rcases this with ⟨v, hv⟩ | hv
      · refine ⟨some k, Or.inl ⟨v, ⟨?_, Finset.mem_univ _⟩, hv⟩, rfl⟩
        rintro rfl
        rw [hw] at hv
        cases hv
      · exact ⟨some k, Or.inr hv.symm, rfl⟩
    refine (Finset.card_le_card hsub).trans ?_
    refine Finset.card_biUnion_le.trans ?_
    have h1 : ∀ o : Option SlotNo, o.toFinset.card ≤ 1 := by
      intro o; cases o <;> simp
    refine (Finset.sum_le_card_nsmul _ _ 1 (fun o _ => h1 o)).trans ?_
    simp only [smul_eq_mul, mul_one]
    refine (Finset.card_union_le _ _).trans ?_
    have : (Finset.image (fun v : WindowNo => s.buffers[v].state.result) (Finset.univ.erase w)).card ≤ 3 := by
      refine Finset.card_image_le.trans ?_
      simp
    simp only [Finset.card_singleton]
    omega
  have : (Finset.univ.filter fun k : SlotNo => s.slotTaken k = true) = Finset.univ := by
    ext k; simp [h' k]
  rw [this] at hcard
  simp at hcard

end Sys2Proof.Laws
end

