-- ==== Sys2Proof/Laws/Specs.lean ====
section
/-! SUPPORT. What row commits, the test of a power-down, the beginning of a power-up, the evaluations of a sample and the
snapshot of an analysis leave, in the terms of the claims: one lemma per shared operation, so that a proof about a command
cites it and never unfolds the operation. -/

namespace Sys2Proof.Laws

open Sys2Proof Sys2Proof.Machine Sys2Proof.Safety

/-! ### Marks of changed duties (R80, R116) -/

theorem dutiesMarked_refl (s : State) (changed : Nat → Prop) (h : ∀ z, ¬changed z) : DutiesMarked s s changed :=
  fun _ => ⟨rfl, fun _ => ⟨Or.inl, fun e => e.elim id fun ⟨z, _, hz, _⟩ => absurd hz (h z)⟩,
    ⟨Or.inl, fun e => e.elim id fun ⟨z, _, hz, _⟩ => absurd hz (h z)⟩⟩

theorem dutiesMarked_congr {s t : State} {p q : Nat → Prop} (h : DutiesMarked s t p) (hpq : ∀ z, p z ↔ q z) :
    DutiesMarked s t q := by
  rw [← show p = q from funext fun z => propext (hpq z)]
  exact h

/-- Changes one after another mark what either marks, as long as the map of zones to channels stays. -/
theorem dutiesMarked_trans {s t u : State} {p q : Nat → Prop} (h : DutiesMarked s t p) (k : DutiesMarked t u q)
    (hz : ∀ z, t.zoneChannel z = s.zoneChannel z) : DutiesMarked s u fun z => p z ∨ q z := by
  intro l
  obtain ⟨h1, h2, h3⟩ := h l
  obtain ⟨k1, k2, k3⟩ := k l
  have split : ∀ r : ChannelId → Prop,
      (∃ z c, (p z ∨ q z) ∧ s.zoneChannel z = some c ∧ r c)
        ↔ (∃ z c, p z ∧ s.zoneChannel z = some c ∧ r c) ∨ ∃ z c, q z ∧ s.zoneChannel z = some c ∧ r c := by
    intro r
    constructor
    · rintro ⟨z, c, hp | hq, hc⟩
      · exact Or.inl ⟨z, c, hp, hc⟩
      · exact Or.inr ⟨z, c, hq, hc⟩
    · rintro (⟨z, c, hp, hc⟩ | ⟨z, c, hq, hc⟩)
      · exact ⟨z, c, Or.inl hp, hc⟩
      · exact ⟨z, c, Or.inr hq, hc⟩
  simp only [hz] at k2 k3
  refine ⟨?_, fun i => ?_, ?_⟩
  · rw [k1, h1]
  · rw [k2 i, h2 i, split fun c => c.line = l ∧ i = 16 * c.position.val + c.channel.val, or_assoc]
  · rw [k3, h3, split fun c => c.line = l, or_assoc]

/-- Marking the channel of one zone (R80). -/
theorem markZone_marked (z : Nat) (s : State) : DutiesMarked s (s.markZone z) (· = z) := by
  intro l
  unfold State.markZone
  cases hc : s.zoneChannel z with
  | none =>
    refine ⟨rfl, fun i => ⟨Or.inl, fun e => e.elim id ?_⟩, ⟨Or.inl, fun e => e.elim id ?_⟩⟩
    · rintro ⟨y, c, rfl, h, -⟩
      rw [hc] at h
      cases h
    · rintro ⟨y, c, rfl, h, -⟩
      rw [hc] at h
      cases h
  | some c =>
    have bit : 16 * c.position.val + c.channel.val < 384 := by omega
    simp only [State.markChannels, modifyLine_get, channelBit]
    by_cases hl : l = c.line
    · subst hl
      rw [if_pos rfl]
      refine ⟨rfl, fun i => ?_, ⟨fun _ => Or.inr ⟨z, c, rfl, hc, rfl⟩, fun _ => rfl⟩⟩
      simp only [BitVec.getLsbD_or, BitVec.getLsbD_twoPow, Bool.or_eq_true, Bool.and_eq_true, decide_eq_true_eq]
      refine or_congr Iff.rfl ⟨fun h => ⟨z, c, rfl, hc, rfl, h.2.symm⟩, ?_⟩
      rintro ⟨y, d, rfl, hd, -, rfl⟩
      rw [hc] at hd
      cases hd
      exact ⟨bit, rfl⟩
    · rw [if_neg hl]
      refine ⟨rfl, fun i => ⟨Or.inl, fun e => e.elim id ?_⟩, ⟨Or.inl, fun e => e.elim id ?_⟩⟩
      · rintro ⟨y, d, rfl, hd, rfl, -⟩
        rw [hc] at hd
        cases hd
        exact absurd rfl hl
      · rintro ⟨y, d, rfl, hd, rfl⟩
        rw [hc] at hd
        cases hd
        exact absurd rfl hl

/-- One entry of the Zone Drive Table written (R79, R80). -/
theorem writeDrive_marked (z : Nat) (e : DriveEntry) (s : State) :
    DutiesMarked s (s.writeDrive z e) fun y => y = z ∧ (s.drive.get z).duty ≠ e.duty := by
  unfold State.writeDrive
  dsimp only
  by_cases h : (s.drive.get z).duty ≠ e.duty
  · rw [if_pos h]
    exact dutiesMarked_congr (markZone_marked z { s with drive := s.drive.set z e }) fun y => (and_iff_left h).symm
  · rw [if_neg h]
    exact dutiesMarked_refl s _ fun y hy => h hy.2

theorem zoneChannel_of_outside {s t : State} (h : Outside [.drive, .lines] s t) (z : Nat) :
    t.zoneChannel z = s.zoneChannel z := by
  unfold State.zoneChannel
  rw [show t.tables = s.tables from h .tables (by decide)]

/-- Entries written one after another, each zone at most once. -/
theorem foldl_writeDrive_marked (e : Nat → DriveEntry) (zs : List Nat) (hn : zs.Nodup) (s : State) :
    DutiesMarked s (zs.foldl (fun t z => t.writeDrive z (e z)) s) fun z => z ∈ zs ∧ (s.drive.get z).duty ≠ (e z).duty := by
  induction zs generalizing s with
  | nil => exact dutiesMarked_refl s _ fun z h => by cases h.1
  | cons a rest ih =>
    rw [List.nodup_cons] at hn
    rw [List.foldl_cons]
    refine dutiesMarked_congr
      (dutiesMarked_trans (writeDrive_marked a (e a) s) (ih hn.2 _)
        (zoneChannel_of_outside (outside_writeDrive a (e a) s))) fun z => ?_
    rw [drive_writeDrive, ZoneTable.get_set]
    by_cases hz : z = a
    · subst hz
      simp [hn.1]
    · simp [hz]

/-- Row commits in a row write the zones from `lo` to `hi` once each, in order. -/
theorem commitRows_eq (k : SlotNo) (lo hi : Nat) (s : State) :
    s.commitRows k lo hi
      = (List.range' (lo * s.grid.columns) ((hi - lo) * s.grid.columns)).foldl
          (fun t z => t.writeDrive z (s.results[k].entry z)) s := by
  unfold State.commitRows
  have key : ∀ (n lo : Nat) (t : State), t.grid = s.grid → t.results = s.results →
      (List.range' lo n).foldl (fun t row => t.commitRow k row) t
        = (List.range' (lo * s.grid.columns) (n * s.grid.columns)).foldl
            (fun t z => t.writeDrive z (s.results[k].entry z)) t := by
    intro n
    induction n with
    | zero => intro lo t _ _; simp
    | succ n ih =>
      intro lo t hg hr
      have ho := outside_commitRow k lo t
      rw [List.range'_succ, List.foldl_cons,
        ih (lo + 1) _ ((ho .grid (by decide)).trans hg) ((ho .results (by decide)).trans hr)]
      rw [show (n + 1) * s.grid.columns = s.grid.columns + n * s.grid.columns by rw [Nat.succ_mul, Nat.add_comm],
        ← List.range'_append_1, List.foldl_append, Nat.succ_mul]
      congr 1
      unfold State.commitRow
      rw [hg, hr, List.range'_eq_map_range, List.foldl_map]
  exact key (hi - lo) lo s rfl rfl

/-- Row commits mark the channel of each zone whose duty they change (R80, R87). -/
theorem commitRows_marked (k : SlotNo) (lo hi : Nat) (s : State) :
    DutiesMarked s (s.commitRows k lo hi) fun z =>
      (lo * s.grid.columns ≤ z ∧ z < hi * s.grid.columns) ∧ (s.drive.get z).duty ≠ s.results[k].duty.get z := by
  rw [commitRows_eq]
  refine dutiesMarked_congr (foldl_writeDrive_marked (fun z => s.results[k].entry z) _ List.nodup_range' s) fun z => ?_
  rw [List.mem_range'_1]
  refine and_congr_left fun _ => ?_
  by_cases h : lo ≤ hi
  · rw [← Nat.add_mul, Nat.add_sub_cancel' h]
  · have h1 : hi - lo = 0 := by omega
    have h2 : hi * s.grid.columns ≤ lo * s.grid.columns := Nat.mul_le_mul_right _ (by omega)
    rw [h1, Nat.zero_mul]
    omega

/-- A scan start's flush leaves the entries of `afterFlush`, and marks those whose duty it changes (R80, R84). -/
theorem flushScan_get (s : State) (z : Nat) : s.flushScan.drive.get z = afterFlush s z := by
  unfold State.flushScan afterFlush flushed
  rcases s.scan.pointer with _ | w
  · rfl
  · rcases s.scan.result with _ | k
    · rfl
    · exact commitRows_get k _ _ s z

theorem flushScan_marked (s : State) :
    DutiesMarked s s.flushScan fun z => (afterFlush s z).duty ≠ (s.drive.get z).duty := by
  unfold State.flushScan afterFlush flushed
  rcases s.scan.pointer with _ | w
  · exact dutiesMarked_refl s _ fun z h => h rfl
  · rcases s.scan.result with _ | k
    · exact dutiesMarked_refl s _ fun z h => h rfl
    · refine dutiesMarked_congr (commitRows_marked k _ _ s) fun z => ?_
      rw [if_neg (by simp)]
      dsimp only
      split
      · rename_i h
        exact ⟨fun e => e.2.symm, fun e => ⟨h, e.symm⟩⟩
      · rename_i h
        exact ⟨fun e => absurd e.1 h, fun e => absurd rfl e⟩

/-! ### The backlight (R130, R133, R135) -/

theorem flagsAdded_addEvent (k : EventKind) (x : Subject) (d : Nat) (s : State) :
    flagsAdded s (s.addEvent k x d) (overrun s) := fun f => flag_addEvent k x d s f

/-- Two events one after another set EVENT_OVERRUN when the queue holds 31 records or more (R167). -/
theorem flagsAdded_two {s t u : State} (k : EventKind) (x : Subject) (d : Nat)
    (he : t.events = eventsAfter s.events s.ms k x d) (h : flagsAdded s t (overrun s)) (g : flagsAdded t u (overrun t)) :
    flagsAdded s u (if 31 ≤ s.events.length then [.eventOverrun] else []) := fun f => by
  have second : overrun t = if 31 ≤ s.events.length then [.eventOverrun] else [] := by
    unfold overrun
    rw [he, length_eventsAfter]
    exact if_congr (by omega) rfl rfl
  rw [g f, h f, second]
  unfold overrun
  by_cases hl : 31 ≤ s.events.length <;> by_cases hm : 32 ≤ s.events.length <;> by_cases hf : f = .eventOverrun <;>
    simp [hl, hm, hf]
  omega

@[simp] theorem addEvent_lines (k : EventKind) (x : Subject) (d : Nat) (s : State) : (s.addEvent k x d).lines = s.lines :=
  outside_addEvent k x d s .lines (by decide)

@[simp] theorem addEvent_protection (k : EventKind) (x : Subject) (d : Nat) (s : State) :
    (s.addEvent k x d).protection = s.protection :=
  outside_addEvent k x d s .protection (by decide)

/-- A change of the backlight state (R130). -/
theorem setBacklight_eq (b : Backlight) (s : State) (h : s.protection.backlight ≠ b) :
    s.setBacklight b
      = ({ s with protection := { s.protection with backlight := b } }).addEvent .backlightState .none (backlightCode b) :=
  if_neg h

/-- With no line RUNNING a changed ceiling signals nothing. -/
theorem settleCeiling_dark (old : Nat) (s : State) (h : ∀ l : LineNo, s.lines[l].state ≠ .running) :
    s.settleCeiling old = s := by
  have hl : (s.settleCeiling old).lines = s.lines := by
    refine Vector.ext fun i hi => ?_
    have := settleCeiling_get old s ⟨i, hi⟩
    rw [if_neg fun e => h ⟨i, hi⟩ e.2] at this
    exact this
  rw [eq_with_lines (s := s) (t := s.settleCeiling old) fun p hp => outside_settleCeiling old s p (by simpa using hp), hl]

theorem powerDownEnd_spec (s : State) (hb : s.protection.backlight ≠ .off) (hl : ∀ l : LineNo, s.lines[l].state ≠ .running) :
    s.powerDownEnd.lines = s.lines ∧ PowerDownEnds s s.powerDownEnd := by
  have h : s.powerDownEnd = (s.setSequencer .idle .stopped).setBacklight .off :=
    settleCeiling_dark _ _ fun l => by
      rw [show ((s.setSequencer .idle .stopped).setBacklight .off).lines = s.lines from
        outside_setBacklight .off (s.setSequencer .idle .stopped) .lines (by decide)]
      exact hl l
  rw [h, setBacklight_eq _ _ (show (s.setSequencer .idle .stopped).protection.backlight ≠ .off from hb)]
  exact ⟨by simp, by simp, rfl, flagsAdded_addEvent _ _ _ _⟩

/-- The first element of a falling list that has a property is the largest that has it. -/
theorem find_falling {n : Nat} (p : Fin n → Bool) (ms : List (Fin n)) (hs : ms.Pairwise (· > ·)) (l : Fin n) (hl : l ∈ ms)
    (hp : p l = true) (ha : ∀ m, l < m → p m = false) : ms.find? p = some l := by
  induction ms with
  | nil => cases hl
  | cons a rest ih =>
    rw [List.pairwise_cons] at hs
    rcases List.mem_cons.1 hl with rfl | hl
    · exact List.find?_cons_of_pos hp
    · rw [List.find?_cons_of_neg (by simp [ha a (hs.1 l hl)])]
      exact ih hs.2 hl

theorem highestRunning_eq (s : State) (l : LineNo) (h : s.lines[l].state = .running)
    (ha : ∀ m, l < m → s.lines[m].state ≠ .running) : s.highestRunning = some l :=
  find_falling _ _ (by decide) l (by simp) (by simpa using h) fun m hm => by simpa using ha m hm

theorem highestRunning_none (s : State) (h : ∀ l : LineNo, s.lines[l].state ≠ .running) : s.highestRunning = none :=
  List.find?_eq_none.2 fun l _ => by simpa using h l

theorem highestRunning_isSome (s : State) (l : LineNo) (h : s.lines[l].state = .running) : ∃ m, s.highestRunning = some m := by
  rcases hm : s.highestRunning with _ | m
  · exact absurd (by simpa using h) (List.find?_eq_none.1 hm l (by simp))
  · exact ⟨m, rfl⟩

theorem drained_iff (s : State) :
    s.drained = true ↔ ∀ l : LineNo, s.lines[l].state = .running → s.lines[l].ceilingLatched = true := by
  unfold State.drained
  rw [List.all_eq_true]
  refine ⟨fun h l hl => ?_, fun h l _ => ?_⟩
  · have := h l (by simp)
    rw [hl] at this
    simpa using this
  · by_cases hl : s.lines[l].state = .running
    · rw [h l hl, Bool.or_true]
    · rw [beq_eq_false_iff_ne.2 hl]
      rfl

/-- A RUNNING line that gets a stop order (R121). -/
theorem stopOrder_running (l : LineNo) (s : State) (h : s.lines[l].state = .running) :
    s.stopOrder l = { s with lines := s.lines.set l (stoppedLine s.lines[l]) } := by
  unfold State.stopOrder
  rw [if_neg (by rw [h]; decide), ← stoppedLine_eq]
  rfl

/-- The test that R135 makes of a power-down. -/
theorem powerDownTest_spec (s : State) (hb : s.protection.backlight ≠ .off)
    (hq : s.protection.sequencer = .draining ∨ s.protection.sequencer = .dropping) : PowerDownTested s s.powerDownTest := by
  refine ⟨fun hl => ?_, fun ⟨l, hl⟩ hd => ?_, fun h hq hr ha hc => ?_⟩
  · have e : s.powerDownTest = s.powerDownEnd := by
      have hn := highestRunning_none s hl
      unfold State.powerDownTest
      rcases hq with hq | hq <;> simp only [hq]
      · rw [if_pos ((drained_iff s).2 fun l h => absurd h (hl l))]
        unfold State.dropOne
        rw [hn]
      · rw [if_pos hn]
    rw [e]
    exact powerDownEnd_spec s hb hl
  · have e : s.powerDownTest = s := by
      obtain ⟨m, hm⟩ := highestRunning_isSome s l hl
      unfold State.powerDownTest
      rcases hd with hd | ⟨k, hk, hc⟩
      · simp [hd, hm]
      · have : ¬s.drained = true := fun hd => by rw [(drained_iff s).1 hd k hk] at hc; cases hc
        rcases hq with hq | hq <;> simp [hq, this, hm]
    rw [e]
    exact ⟨rfl, rfl, rfl, rfl⟩
  · have e : s.powerDownTest = s.dropOne := by
      unfold State.powerDownTest
      simp only [hq]
      exact if_pos ((drained_iff s).2 hc)
    have state : ∀ m : LineNo, (s.stopOrder h).lines[m].state = if m = h then .off else s.lines[m].state := fun m => by
      rw [stopOrder_get]
      by_cases hm : m = h
      · rw [if_pos ⟨hm, by rw [hr]; decide, by rw [hr]; decide⟩, if_pos hm]
        rfl
      · rw [if_neg fun e => hm e.1, if_neg hm]
    rw [e]
    unfold State.dropOne
    rw [highestRunning_eq s h hr ha]
    dsimp only
    by_cases hm : ∃ m, m < h ∧ s.lines[m].state = .running
    · obtain ⟨m, hlt, hrun⟩ := hm
      obtain ⟨k, hk⟩ := highestRunning_isSome (s.stopOrder h) m (by rw [state, if_neg (ne_of_lt hlt)]; exact hrun)
      rw [hk, stopOrder_running h s hr]
      exact ⟨rfl, fun _ => ⟨rfl, rfl, rfl⟩, fun hn => absurd hrun (hn m hlt)⟩
    · have hn : ∀ l : LineNo, (s.stopOrder h).lines[l].state ≠ .running := fun l => by
        rw [state]
        split
        · decide
        · rename_i hl
          rcases Nat.lt_or_gt_of_ne fun e => hl (Fin.ext e) with hlt | hgt
          · exact fun e => hm ⟨l, hlt, e⟩
          · exact ha l hgt
      rw [highestRunning_none _ hn, stopOrder_running h s hr]
      rw [stopOrder_running h s hr] at hn
      obtain ⟨h1, h2, h3, h4⟩ := powerDownEnd_spec { s with lines := s.lines.set h (stoppedLine s.lines[h]) } hb hn
      exact ⟨h1, fun ⟨m, hlt, hrun⟩ => absurd ⟨m, hlt, hrun⟩ hm, fun _ => ⟨h2, h3, h4⟩⟩

/-- A start order replaces the line's record at most (R119). -/
theorem startOrder_eq (l : LineNo) (s : State) :
    s.startOrder l
      = { s with
          lines :=
            if s.lines[l].state = .off ∨ s.lines[l].state = .faulted then
              s.lines.set l (startedLine s.limits.slotUs s.lines[l])
            else s.lines } := by
  unfold State.startOrder
  split
  · rfl
  · rfl

/-- The beginning of a power-up (R133). -/
theorem powerUpBegin_spec (s : State) (h : s.protection.backlight ≠ .poweringUp) : PowerUpBegun s s.powerUpBegin := by
  have frame := outside_setBacklight .poweringUp s
  have tables := frame .tables (by decide)
  have lines := frame .lines (by decide)
  have used : (s.setBacklight .poweringUp).usedLines
      = (List.finRange 16).filter fun m => decide (0 < s.driverCount m ∧ s.lines[m].state ≠ .locked) := by
    unfold State.usedLines State.driverCount
    rw [tables, lines]
    exact List.filter_congr fun m _ => by rw [Bool.decide_and, decide_not]; rfl
  have limits : (s.setBacklight .poweringUp).limits = s.limits := by
    unfold State.limits
    rw [tables]
  have protection : (s.setBacklight .poweringUp).protection = { s.protection with backlight := .poweringUp } := by
    rw [setBacklight_eq _ _ h, addEvent_protection]
  have events : (s.setBacklight .poweringUp).events = eventsAfter s.events s.ms .backlightState .none 1 := by
    rw [setBacklight_eq _ _ h]
    rfl
  have flags : flagsAdded s (s.setBacklight .poweringUp) (overrun s) := by
    rw [setBacklight_eq _ _ h]
    exact flagsAdded_addEvent _ _ _ _
  refine ⟨fun l rest hr => ?_, fun hn => ?_⟩
  · have e : s.powerUpBegin
        = ((s.setBacklight .poweringUp).setSequencer (.up rest l) (stepTimerFor rest)).startOrder l := by
      unfold State.powerUpBegin
      dsimp only
      rw [used.trans hr]
    rw [e, startOrder_eq]
    refine ⟨?_, ?_, events, flags⟩
    · show { (s.setBacklight .poweringUp).protection with sequencer := .up rest l, stepTimer := stepTimerFor rest } = _
      rw [protection]
      rfl
    · show (if (s.setBacklight .poweringUp).lines[l].state = .off ∨ (s.setBacklight .poweringUp).lines[l].state = .faulted then
          (s.setBacklight .poweringUp).lines.set l
            (startedLine (s.setBacklight .poweringUp).limits.slotUs (s.setBacklight .poweringUp).lines[l])
        else (s.setBacklight .poweringUp).lines) = _
      rw [limits, lines]
  · have e : s.powerUpBegin = ((s.setBacklight .poweringUp).setSequencer .idle .stopped).setBacklight .on := by
      unfold State.powerUpBegin
      dsimp only
      rw [used.trans hn]
    have lit : ((s.setBacklight .poweringUp).setSequencer .idle .stopped).protection.backlight ≠ .on := by
      show (s.setBacklight .poweringUp).protection.backlight ≠ .on
      rw [protection]
      exact nofun
    rw [e, setBacklight_eq _ _ lit]
    refine ⟨?_, (addEvent_lines ..).trans lines, ?_, fun f => ?_⟩
    · rw [addEvent_protection]
      show { (s.setBacklight .poweringUp).protection with sequencer := .idle, stepTimer := .stopped, backlight := .on } = _
      rw [protection]
    · show eventsAfter (s.setBacklight .poweringUp).events (s.setBacklight .poweringUp).ms _ _ _ = _
      rw [events, frame .ms (by decide)]
      rfl
    · exact flagsAdded_two .backlightState .none 1 (by exact events) (by exact flags) (flagsAdded_addEvent _ _ _ _) f

/-! ### Samples (R136 to R141) -/

/-- The millisecond and the codes of a sample (R136). -/
theorem tickMs_sampled (c : SampleSet) (s : State) :
    { s.tickMs with protection := { s.tickMs.protection with codes := c } } = sampled s c := by
  unfold State.tickMs
  rw [forLines_map]
  rfl

/-- The evaluation of the supply state (R140, R141). -/
theorem evalSupply_spec (s : State) : SupplyEvaluated s s.evalSupply := by
  unfold State.evalSupply
  dsimp only
  by_cases h : s.protection.supply = supplyNext s.limits s.protection.codes.vled.toNat s.protection.supply
  · have k := h.symm
    rw [if_pos h]
    unfold SupplyEvaluated
    dsimp only
    rw [k]
    simp [flagsAdded]
  · have k : supplyNext s.limits s.protection.codes.vled.toNat s.protection.supply ≠ s.protection.supply := Ne.symm h
    rw [if_neg h]
    unfold SupplyEvaluated
    dsimp only
    generalize supplyNext s.limits s.protection.codes.vled.toNat s.protection.supply = y at k ⊢
    simp only [k, ne_eq, not_false_eq_true, if_true, true_and]
    refine ⟨?_, ?_, fun f => ?_⟩
    · rw [show ∀ (b : Bool) (t : State), (t.setFlagIf b .uvSeen).protection = t.protection from fun b t => by cases b <;> rfl,
        addEvent_protection]
      cases y <;> cases s.limits.uvMode <;> simp
    · rw [show ∀ (b : Bool) (t : State), (t.setFlagIf b .uvSeen).events = t.events from fun b t => by cases b <;> rfl]
      cases y <;> rfl
    · rw [flag_setFlagIf, flag_addEvent]
      show (s.flag f || decide (f ∈ overrun s) || _) = _
      cases y <;> simp [Bool.or_assoc, Bool.or_comm]

/-- A stop order to every line (R121, R138). -/
theorem stopLines_eq (s : State) :
    forLines State.stopOrder s
      = { s with lines := s.lines.map fun x => if x.state = .off ∨ x.state = .locked then x else stoppedLine x } := by
  rw [← forLines_map]
  unfold forLines
  congr 1
  funext t l
  unfold State.stopOrder
  split
  · next h =>
    exact (modifyLine_self l t (fun x => if x.state = .off ∨ x.state = .locked then x else stoppedLine x) (if_pos h)).symm
  · next h =>
    have congr : ∀ f g : Line → Line, f t.lines[l] = g t.lines[l] → t.modifyLine l f = t.modifyLine l g := fun f g e => by
      unfold State.modifyLine
      rw [e]
    refine congr _ _ ?_
    rw [if_neg h]
    exact stoppedLine_eq _

/-- A history with one more entry, and whether it is full within a span (R122, R138, R143). -/
theorem historyFull_add (limit span : Nat) (now : Word) (old : List Word) (hl : 1 ≤ limit) :
    historyFull limit span (historyAdd limit now old)
      = decide ((historyAdd limit now old).length = limit ∧ (now - (historyAdd limit now old).headD 0).toNat ≤ span) := by
  have last : (historyAdd limit now old).getLast?.getD 0 = now := by
    unfold historyAdd
    rw [List.getLast?_drop, if_neg (by simp; omega)]
    simp
  unfold historyFull
  rw [last, ← List.headD_eq_head?_getD, Bool.decide_and]
  rfl

/-- A change of the backlight state, or none (R130). -/
theorem setBacklight_spec (b : Backlight) (s : State) :
    (s.setBacklight b).protection = { s.protection with backlight := b }
    ∧ (s.setBacklight b).events
        = (if b = s.protection.backlight then s.events
          else eventsAfter s.events s.ms .backlightState .none (backlightCode b))
    ∧ flagsAdded s (s.setBacklight b) (if b = s.protection.backlight then [] else overrun s) := by
  by_cases h : b = s.protection.backlight
  · rw [show s.setBacklight b = s from if_pos h.symm, if_pos h, if_pos h, h]
    exact ⟨rfl, rfl, fun f => by simp⟩
  · rw [setBacklight_eq _ _ fun e => h e.symm, if_neg h, if_neg h]
    exact ⟨addEvent_protection .., rfl, flagsAdded_addEvent _ _ _ _⟩

/-- A change of the thermal state with the cool-down count at 0 (R137, R139). -/
theorem setThermal_spec (x : Thermal) (s : State) (h : s.protection.thermal ≠ x) :
    let t := (s.setThermal x).setCoolDown 0
    t.protection = { s.protection with thermal := x, coolDown := 0 }
    ∧ t.events = eventsAfter s.events s.ms .thermalState .none (thermalCode x) ∧ flagsAdded s t (overrun s)
    ∧ Outside [.protection, .events, .accrued] s t := by
  have e : s.setThermal x
      = ({ s with protection := { s.protection with thermal := x } }).addEvent .thermalState .none (thermalCode x) := if_neg h
  refine ⟨?_, ?_, ?_, outside_step (outside_setCoolDown 0 _) (by decide) (outside_setThermal x s)⟩ <;> rw [e]
  · show { (State.addEvent _ _ _ _).protection with coolDown := 0 } = _
    rw [addEvent_protection]
  · rfl
  · exact fun f => flag_addEvent .thermalState .none (thermalCode x) { s with protection := { s.protection with thermal := x } } f

/-- The entry into SHUTDOWN (R137, R138). -/
theorem enterShutdown_spec (s : State) (h : s.protection.thermal ≠ .shutdown) : ShutdownEntered s s.enterShutdown := by
  have past : historyAdd 7 s.ms s.protection.shutdownHistory
      = (s.protection.shutdownHistory ++ [s.ms]).drop (s.protection.shutdownHistory.length - 6) := by
    unfold historyAdd
    simp
  have lit : s.protection.backlight.lit = decide (lightsUp s.protection.backlight) := by
    cases s.protection.backlight <;> rfl
  obtain ⟨hp, he, hf, ho⟩ := setThermal_spec .shutdown s h
  unfold ShutdownEntered
  dsimp only
  rw [← past]
  generalize hb : (if (historyAdd 7 s.ms s.protection.shutdownHistory).length = 7
      ∧ (s.ms - (historyAdd 7 s.ms s.protection.shutdownHistory).headD 0).toNat ≤ 60000 then Backlight.latchedOff
    else if lightsUp s.protection.backlight then Backlight.thermalOff else s.protection.backlight) = b
  obtain ⟨t, tp, te, tf, tl, tm, e⟩ : ∃ t : State,
      t.protection = { s.protection with
                       thermal := .shutdown, coolDown := 0
                       shutdownHistory := historyAdd 7 s.ms s.protection.shutdownHistory }
      ∧ t.events = eventsAfter s.events s.ms .thermalState .none 3 ∧ flagsAdded s t (overrun s) ∧ t.lines = s.lines
      ∧ t.ms = s.ms
      ∧ s.enterShutdown
        = if lightsUp s.protection.backlight then
            forLines State.stopOrder ((t.setBacklight b).setSequencer .idle .stopped)
          else t.setBacklight b := by
    refine ⟨{ (s.setThermal .shutdown).setCoolDown 0 with
              protection :=
                { ((s.setThermal .shutdown).setCoolDown 0).protection with
                  shutdownHistory := historyAdd 7 s.ms s.protection.shutdownHistory } },
      ?_, he, hf, ho .lines (by decide), ho .ms (by decide), ?_⟩
    · show { ((s.setThermal .shutdown).setCoolDown 0).protection with
              shutdownHistory := historyAdd 7 s.ms s.protection.shutdownHistory } = _
      rw [hp]
    · unfold State.enterShutdown
      dsimp only
      rw [historyFull_add 7 60000 s.ms _ (by decide), lit]
      simp only [decide_eq_true_eq]
      rw [hb]
  obtain ⟨bp, be, bf⟩ := setBacklight_spec b t
  have bl : (t.setBacklight b).lines = s.lines := (outside_setBacklight b t .lines (by decide)).trans tl
  rw [tp] at bp be bf
  rw [te, tm] at be
  have code : b ≠ s.protection.backlight → backlightCode b = if b = .latchedOff then 5 else 4 := fun hn => by
    rw [← hb] at hn ⊢
    split at hn
    · next hq => rw [if_pos hq]; rfl
    · next hq =>
      split at hn
      · next hr => rw [if_neg hq, if_pos hr]; rfl
      · exact absurd rfl hn
  have events : (t.setBacklight b).events
      = (if b = s.protection.backlight then eventsAfter s.events s.ms .thermalState .none 3
        else eventsAfter (eventsAfter s.events s.ms .thermalState .none 3) s.ms .backlightState .none
          (if b = .latchedOff then 5 else 4)) := by
    rw [be]
    by_cases hn : b = s.protection.backlight
    · rw [if_pos hn, if_pos hn]
    · rw [if_neg hn, if_neg hn, code hn]
  have flags : flagsAdded s (t.setBacklight b)
      (if b = s.protection.backlight then overrun s
      else if 31 ≤ s.events.length then [.eventOverrun] else []) := by
    by_cases hn : b = s.protection.backlight
    · rw [if_pos hn] at bf ⊢
      exact fun f => by rw [bf f, tf f]; simp
    · rw [if_neg hn] at bf ⊢
      exact flagsAdded_two _ _ _ te tf bf
  have frame := outside_mono (qs := [.protection, .lines, .events, .accrued]) (outside_enterShutdown s) (by decide)
  rw [e] at frame ⊢
  by_cases hl : lightsUp s.protection.backlight
  · simp only [if_pos hl, stopLines_eq] at frame ⊢
    refine ⟨?_, ?_, events, flags, frame⟩
    · show { (t.setBacklight b).protection with sequencer := .idle, stepTimer := .stopped } = _
      rw [bp]
    · show Vector.map _ (t.setBacklight b).lines = _
      rw [bl]
  · simp only [if_neg hl] at frame ⊢
    exact ⟨bp, bl, events, flags, frame⟩

/-- The end of SHUTDOWN (R139). -/
theorem leaveShutdown_spec (s : State) (h : s.protection.thermal = .shutdown) : ShutdownLeft s s.leaveShutdown := by
  have hx : s.protection.thermal
      ≠ if s.limits.warm ≤ boardTemp s.protection.codes + s.limits.thermalHysteresis then Thermal.warm else .normal := by
    rw [h]
    split <;> exact nofun
  obtain ⟨up, ue, uf, uo⟩ := setThermal_spec _ s hx
  unfold ShutdownLeft State.leaveShutdown
  dsimp only
  generalize (s.setThermal (if s.limits.warm ≤ boardTemp s.protection.codes + s.limits.thermalHysteresis then Thermal.warm
    else .normal)).setCoolDown 0 = u at up ue uf uo ⊢
  have ub : u.protection.backlight = s.protection.backlight ∧ u.protection.target = s.protection.target := by
    rw [up]
    exact ⟨rfl, rfl⟩
  have valid : u.powerTablesValid
      = decide (s.tables.zoneMapState = .valid ∧ s.tables.lineSetupState = .valid ∧ s.tables.limitsState = .valid) := by
    unfold State.powerTablesValid
    rw [uo .tables (by decide), Bool.decide_and, Bool.decide_and, Bool.and_assoc]
    rfl
  refine ⟨u, up, ?_, uf, uo, fun hb => ?_, fun hb hp => ?_, fun hb hp => ?_⟩
  · rw [ue]
    split <;> rfl
  · rw [ub.1, if_neg hb]
  · have e : u.powerUpOrOff = u.powerUpBegin := if_pos (by rw [valid]; exact decide_eq_true hp.2)
    rw [ub.1, if_pos hb, ub.2, if_pos hp.1, e]
    exact ⟨powerUpBegin_spec u (by rw [ub.1, hb]; exact nofun), outside_mono (outside_powerUpBegin u) (by decide)⟩
  · have e : ∀ v : State, v = (u.setTarget false).setBacklight .off →
        v.protection = { u.protection with backlight := .off, target := false }
        ∧ v.events = eventsAfter u.events u.ms .backlightState .none 0 ∧ flagsAdded u v (overrun u)
        ∧ Outside [.protection, .events, .accrued] u v := fun v hv => by
      have hn : Backlight.off ≠ (u.setTarget false).protection.backlight := by
        show Backlight.off ≠ u.protection.backlight
        rw [ub.1, hb]
        exact nofun
      obtain ⟨vp, ve, vf⟩ := setBacklight_spec .off (u.setTarget false)
      rw [if_neg hn] at ve vf
      subst hv
      exact ⟨vp, ve, vf, outside_step (outside_setBacklight _ _) (by decide) (outside_mono (outside_setTarget _ u) (by decide))⟩
    rw [ub.1, if_pos hb, ub.2]
    cases ht : s.protection.target
    · rw [if_neg Bool.false_ne_true]
      refine e _ ?_
      have : u.setTarget false = u := by
        rw [State.setTarget, ← ht, ← ub.2]
      rw [this]
    · rw [if_pos rfl]
      refine e _ (if_neg ?_)
      rw [valid, decide_eq_true_eq]
      exact fun hv => hp ⟨ht, hv⟩

/-! ### The snapshot and the event records (R55 to R57, section 10.7) -/

/-- A 16-bit field of an image is its two bytes, the low one first. -/
theorem field_two {n : Nat} (image : BitVec n) (j : Nat) : field image j 2 = imageWord image j := by
  simp only [field, imageWord, imageByte, BitVec.extractLsb'_toNat, Nat.shiftRight_eq_div_pow]
  rw [show 8 * (j + 1) = 8 * j + 8 by ring, pow_add, ← Nat.div_div_eq_div_mul]
  omega

theorem clampTo_eq (lo hi x : Nat) (h : lo ≤ hi) : clampTo lo hi x = min hi (max lo x) := by
  unfold clampTo
  omega

theorem setField_eq (image : BitVec 1024) (offset lo hi : Nat) (h : lo ≤ hi) :
    clampTo lo hi (setField image offset) = boundedField image offset lo hi := by
  rw [clampTo_eq _ _ _ h, setField, field_two, boundedField]

/-- The fields of a set record as an analysis takes them (R56). -/
theorem paramsOf_spec (image : BitVec 1024) : RecordTaken image (paramsOf image) :=
  { mixK := setField_eq _ _ _ _ (by decide)
    mixKSmall := setField_eq _ _ _ _ (by decide)
    brightThreshold := setField_eq _ _ _ _ (by decide)
    minBrightArea := setField_eq _ _ _ _ (by decide)
    curve := ⟨by simp [paramsOf], fun i hi => by simp [paramsOf, hi, setField_eq]⟩
    minLevel := setField_eq _ _ _ _ (by decide)
    halo := ⟨by simp [paramsOf], by simp [paramsOf], fun i j hi hj h => by
      have hk : 3 * i + j < 9 := by omega
      have hz : 3 * i + j ≠ 0 := by omega
      rw [← setField_eq _ _ _ _ (by decide)]
      simp only [paramsOf, List.getElem?_map, List.getElem?_range hk, Option.map_some, if_neg hz]⟩
    sustainLevel := setField_eq _ _ _ _ (by decide)
    boostFrames := setField_eq _ _ _ _ (by decide)
    coolStep := setField_eq _ _ _ _ (by decide)
    upRate := setField_eq _ _ _ _ (by decide)
    downRate := setField_eq _ _ _ _ (by decide)
    cutThreshold := setField_eq _ _ _ _ (by decide)
    spread := ⟨by simp [paramsOf], fun i j hi hj => by
      have hk : 3 * i + j < 9 := by omega
      rw [← setField_eq _ _ _ _ (by decide)]
      simp only [paramsOf, List.getElem?_map, List.getElem?_range hk, Option.map_some]⟩
    eRef := setField_eq _ _ _ _ (by decide)
    gainCeiling := setField_eq _ _ _ _ (by decide) }

/-- A mask built from the lines that have a property holds their bits. -/
theorem foldl_lineBit (p : LineNo → Prop) [DecidablePred p] (ls : List LineNo) (m : BitVec 16) (l : LineNo) :
    (ls.foldl (fun m k => if p k then m ||| BitVec.twoPow 16 k.val else m) m).getLsbD l.val
      = (m.getLsbD l.val || decide (l ∈ ls ∧ p l)) := by
  induction ls generalizing m with
  | nil => simp
  | cons a rest ih =>
    rw [List.foldl_cons, ih]
    by_cases hl : l = a
    · subst hl
      by_cases ha : p l
      · simp [ha]
      · simp [ha]
    · have hv : ¬l.val = a.val := fun e => hl (Fin.ext e)
      by_cases ha : p a
      · simp [ha, hl, hv]
      · simp [ha, hl]

/-- The lines that are RUNNING, one bit each (R57). -/
theorem runningLines_bit (s : State) (l : LineNo) : s.runningLines.getLsbD l.val = decide (s.lines[l].state = .running) := by
  unfold State.runningLines
  rw [foldl_lineBit fun k => s.lines[k].state = .running]
  simp

/-- The snapshot that an analysis start takes (R55 to R57). -/
theorem snapshot_spec (s : State) : SnapshotTaken s s.snapshot :=
  { setA := fun ha hv => by
      have e : s.selectedState = .valid := by rw [State.selectedState, ha]; exact hv
      simp only [State.snapshot, State.setUsedNow, State.paramsInForce, e, ha, if_true]
      exact ⟨trivial, paramsOf_spec _⟩
    setB := fun hb hv => by
      have e : s.selectedState = .valid := by rw [State.selectedState, hb]; exact hv
      simp only [State.snapshot, State.setUsedNow, State.paramsInForce, e, hb, if_true]
      exact ⟨trivial, paramsOf_spec _⟩
    builtin := fun h => by
      have e : s.selectedState ≠ .valid := by
        rcases h with ⟨hs, hn⟩ | ⟨hs, hn⟩ <;> rw [State.selectedState, hs] <;> exact hn
      simp only [State.snapshot, State.setUsedNow, State.paramsInForce, if_neg e]
      exact ⟨trivial, by simp [defaultParams], fun i hi => by simp [defaultParams, hi], rfl⟩
    cap := rfl
    calibration := fun z => by
      by_cases hv : s.tables.calibrationState = .valid
      · simp only [State.snapshot, hv, if_true]
      · simp only [State.snapshot, hv, if_false]
        rfl
    map := ⟨rfl, rfl⟩
    marks := ⟨rfl, rfl⟩
    running := runningLines_bit s
    history := rfl }

end Sys2Proof.Laws
end

