-- ==== Sys2Proof/WellFormed.lean ====
section
/-! DEFINITION. Which commands are well formed: the request fields of section 1.1 in their ranges, and a driver line
return of a length some frame has. A command that is not well formed has a meaning all the same: a link protocol error
(R1), or a return that is no frame's whole return. -/

namespace Sys2Proof

/-- The beat count is 1 to 8 (section 1.1). -/
def Request.countOk (r : Request) : Bool := 1 ≤ r.beatCount && r.beatCount ≤ 8

/-- The address is a multiple of 32 (section 1.1). -/
def Request.aligned (r : Request) : Bool := r.address.toNat % 32 == 0

/-- The request fields of section 1.1 lie in their ranges. -/
def Request.wf (r : Request) : Bool := r.countOk && r.aligned

/-- A driver line frame has 4 bytes (a LATCH) to 820 bytes (a LEVEL of 24 drivers), section 7.3. -/
def returnLengthOk (bytes : List Byte) : Bool := 4 ≤ bytes.length && bytes.length ≤ 820

/-- The well-formed commands. -/
def Instr.wf : Instr → Bool
  | .requestReceived r => r.wf
  | .downstreamSend => true
  | .returnBeatReceived _ => true
  | .upstreamLinkDown => true
  | .upstreamLinkUp => true
  | .downstreamLinkDown => true
  | .downstreamLinkUp => true
  | .resetAsserted => true
  | .resetReleased _ => true
  | .injectedRequestOffer => true
  | .analysisStart => true
  | .analysisCompletion => true
  | .supervisionTimerExpiry => true
  | .setupBuild _ => true
  | .levelBuild _ => true
  | .latchBuild _ => true
  | .pollBuild _ => true
  | .latchEnd _ => true
  | .returnCheck _ bytes => returnLengthOk bytes
  | .timeout _ => true
  | .waitSlotElapsed _ => true
  | .retryDelayElapsed _ => true
  | .pollTimerExpiry _ => true
  | .powerUpStep => true
  | .powerDownStep => true
  | .analogSample _ => true
  | .coolDownEnd _ => true
  | .ocTrip => true
  | .timedRelease => true
  | .window => true
  | .windowOff => true
  | .setGrid => true
  | .selectSet => true
  | .backlightOn => true
  | .backlightOff => true
  | .loadTable => true
  | .tableLoadBegin => true
  | .readStatus => true
  | .readEvents => true
  | .clearFaultLine => true
  | .clearFaultZones => true
  | .clearFaultProtection => true
  | .badCommand => true
  | .overcurrentSample _ => true

end Sys2Proof
end

