-- ==== Sys2Proof/Tests/Slice0.lean ====
section
/-! SUPPORT. Tests: ill-formed commands that WellFormed refuses, the worked examples of the data sheet, one step of each
command, and for every statement with hypotheses a state and operands that meet them (`witness_<statement>`). Expected values
come from the section named in each docstring. -/

namespace Sys2Proof.Tests

-- Each closed check waits for the kernel; run one after another they need no thread each.
set_option Elab.async false

open Sys2Proof Sys2Proof.Machine Sys2Proof.Safety

/-! ### States and operands to test with -/

/-- The state that a command leaves; the state itself where it stops. -/
def after (c : Instr) (s : State) : State :=
  match exec c s with
  | .next t => t
  | .fault _ => s
  | .refused _ => s

/-- RESET_N released with straps 0 and both links UP. -/
def base : State :=
  { State.reset with
    resetAsserted := false, link := { LinkPath.reset with upstream := .up, downstream := .up, credits := 16 } }

/-- A slot image: command code, block size, parameter fields (offset, size, value), commit word 5. -/
def slot (code size : Nat) (params : List (Nat × Nat × Nat)) : BitVec 1024 :=
  packFields 1024 ([(0, 2, code), (2, 2, size), (124, 4, 5)] ++ params.map fun p => (4 + p.1, p.2.1, p.2.2))

/-- A state whose slot 0 holds the image and is pending. -/
def ready (snap : BitVec 1024) (s : State) : State :=
  { s with ring := { s.ring with shadows := s.ring.shadows.set 0 snap, pendingSlots := 1 } }

/-- A state with window 0 enabled: 64 × 64 at 2000_0000h, pitch 256. -/
def window64 : Window :=
  { Window.reset with enable := true, base := 0x20000000#32, pitch := 256, width := 64, height := 64 }

/-- The base state with `window64` as window 0 and its buffer in the given record. -/
def withBuffer (b : Buffer) : State :=
  { base with windows := base.windows.set 0 window64, buffers := base.buffers.set 0 b }

/-- A one-beat WRITE with every byte enabled. -/
def writeBeat (address : Word) (data : Beat) : Request :=
  { requester := 5, address := address, body := .write [{ data := data, enables := BitVec.allOnes 32 }] }

/-- A one-beat READ. -/
def readBeat (address : Word) : Request := { requester := 9, address := address, body := .read 1 }

/-- A grey RGB10 beat. -/
def grey (v : Nat) : Beat := beatOfWords fun _ => putColours .rgb10 0 v v v

/-- A line record in a state. -/
def lineIn (x : LineState) : Line := { Line.reset with state := x }

/-- The base state with a record for DL0. -/
def withLine (x : Line) : State := { base with lines := base.lines.set 0 x }

/-- LINE_SETUP with one driver on DL0 and none elsewhere, ZONE_MAP with the one zone on DL0, position 0, channel 0. -/
def oneZone (s : State) : State :=
  { s with
    tables :=
      { s.tables with
        zoneMapState := .valid, zoneMap := ZoneTable.empty.set 0 1#32, lineSetupState := .valid,
        lineSetup := s.tables.lineSetup.set 0 (packFields 128 [(0, 1, 1)]), limitsState := .valid,
        limits :=
          packFields 512
            [(0x00, 4, 21228480), (0x0C, 2, 2048), (0x0E, 2, 1500), (0x10, 2, 100), (0x12, 2, 2800), (0x14, 2, 3200),
             (0x16, 2, 3600), (0x18, 2, 3700), (0x1A, 2, 100), (0x23, 1, 2), (0x24, 1, 4), (0x25, 1, 20), (0x26, 1, 2),
             (0x27, 1, 24)] } }

/-! ### What is not well formed -/

theorem test_wf_refuses_no_beats :
    Instr.wf (.requestReceived { requester := 1, address := 0, body := .read 0 }) = false := by decide
theorem test_wf_refuses_nine_beats :
    Instr.wf (.requestReceived { requester := 1, address := 0, body := .read 9 }) = false := by decide
theorem test_wf_refuses_unaligned_address :
    Instr.wf (.requestReceived { requester := 1, address := 33, body := .read 1 }) = false := by decide
theorem test_wf_refuses_short_return : Instr.wf (.returnCheck 0 (List.replicate 3 0)) = false := by decide
theorem test_wf_refuses_long_return : Instr.wf (.returnCheck 0 (List.replicate 821 0)) = false := by
  rw [Instr.wf, returnLengthOk, List.length_replicate]
  rfl
theorem test_wf_accepts_a_read : Instr.wf (.requestReceived { requester := 1, address := 32, body := .read 8 }) = true := by
  decide

/-! ### Worked examples of the data sheet -/

/-- The digits 1 to 9 in ASCII. -/
def digits : List Byte := [0x31, 0x32, 0x33, 0x34, 0x35, 0x36, 0x37, 0x38, 0x39]

/-- R173: the CRC-8 of the digits 1 to 9 is F4h. -/
theorem test_crc8_of_the_digits : crc8 digits = 0xF4#8 := by decide +kernel
/-- R172: the CRC-16 of the digits 1 to 9 is 29B1h. -/
theorem test_crc16_of_the_digits : crc16Bytes crc16Start digits = 0x29B1#16 := by decide +kernel
/-- R149: the base of the control region for CFG 0 and CFG 7. -/
theorem test_control_base_of_the_straps :
    base.controlBase = 0x03FFF000 ∧ { base with cfg := 7#3 }.controlBase = 0x1FFFF000 := by decide

/-- The parameter set of section 4.10. -/
def set410 : ParamSet :=
  { defaultParams with
    mixK := 8, mixKSmall := 4, minBrightArea := 64
    curve := (List.range 33).map fun i => if i = 20 then 2400 else if i = 21 then 2560 else 0
    minLevel := 64, halo := [256, 192, 0, 0, 0, 0, 0, 0, 0], sustainLevel := 3000, boostFrames := 8, coolStep := 1
    upRate := 4, downRate := 4, cutThreshold := 256, spread := [1600, 600, 100, 600, 300, 50, 100, 50, 20]
    eRef := 6078, gainCeiling := 2048 }

/-- The grid of section 4.10. -/
def grid410 : Grid := { columns := 96, rows := 54, leadLines := 40 }

/-- Section 4.10, stages 1 and 2: s = 660 and T = 2500. -/
theorem test_statistic_and_tone :
    statistic set410 { peak := 1000, sum := 2048000, bright := 500, pixels := 6400 } = 660 ∧ toneCurve set410 660 = 2500 := by
  decide +kernel
/-- R60: a falling segment with d = -160 and frac = 20 takes the floor, -100. -/
theorem test_falling_tone :
    toneCurve { set410 with curve := (List.range 33).map (fun i => if i = 20 then 160 else 0), minLevel := 0 } 660 = 60 := by
  decide +kernel
/-- Section 4.10, stage 3: H = 2700. -/
theorem test_halo_guard :
    haloGuard set410 grid410 (fun z => if z = 2000 then 2500 else if z = 2001 then 3600 else 100) 2000 = 2700 := by
  decide +kernel
/-- Section 4.11, frames 4 and 7: the limiter holds the level, and the counter cools. -/
theorem test_boost_limiter :
    boostCount { set410 with boostFrames := 3, coolStep := 2 } 3600 3 = 4
    ∧ boostedLevel { set410 with boostFrames := 3, coolStep := 2 } 3600 3 = 3000
    ∧ boostCount { set410 with boostFrames := 3, coolStep := 2 } 2000 6 = 4 := by decide +kernel
/-- Sections 4.10 and 4.11, stage 5: up to 2175, down to 3261. -/
theorem test_filter : filteredLevel set410 false 2700 2000 = 2175 ∧ filteredLevel set410 false 3000 3348 = 3261 := by decide
/-- Section 4.10, stages 6 and 7: duty 2336 before and 1868 after the budget, light 1739. -/
theorem test_calibration_and_budget :
    calibratedDuty false 1100 2175 = 2336 ∧ calibratedLevel false 1100 2175 = 2175
    ∧ budgetScale 8000000 10000000 = 52428 ∧ budgeted 52428 2336 = 1868 ∧ budgeted 52428 2175 = 1739 := by decide +kernel
/-- Section 4.10, stages 8 and 9: E = 1991 and G = 781. -/
theorem test_light_and_gain :
    lightOn set410 grid410 (fun z => if z = 2000 then 1739 else 1200) 2000 = 1991 ∧ gainFor set410 1991 = 781 := by
  decide +kernel

/-- The read classification of section 6.9. -/
def class69 : ReadClass :=
  { window := some 0, line := 50, firstPixel := 96, active := 8, scanMatch := true, compensate := true, format := .rgb10,
    hueClip := false, width := 7680, height := 4320 }

/-- The four gains of section 6.9. -/
def state69 : State :=
  { base with
    grid := grid410
    drive :=
      (((ZoneTable.empty.set 0 { duty := 0, gain := 781 }).set 1 { duty := 0, gain := 1024 }).set 96
        { duty := 0, gain := 512 }).set 97 { duty := 0, gain := 256 } }

/-- Section 6.9: the weights of the blended pixel, of the 90-column grid and of the right edge. -/
theorem test_places : place 96 7680 201 = (0, 193) ∧ place 54 4320 101 = (0, 33) ∧ place 90 7680 511 = (2, 127)
    ∧ place 96 7680 15351 = (95, 0) ∧ place 96 7680 21 = (0, 0) := by decide +kernel
/-- Section 6.9: the four gains blend to 881. -/
theorem test_blended_gain : state69.blendedGain class69 100 = 881 := by decide +kernel
/-- Section 6.9: (400, 200, 600) under 881, without and with the hue-preserving clip. -/
theorem test_scaled_pixel :
    colours .rgb10 (compensateWord class69 881 (putColours .rgb10 0 400 200 600)) = (1023, 688, 1023)
    ∧ colours .rgb10 (compensateWord { class69 with hueClip := true } 881 (putColours .rgb10 0 400 200 600))
        = (681, 341, 1022) := by decide +kernel

/-- The beat of section 3.9. -/
def beat39 : Beat :=
  beatOfWords fun k =>
    match k with
    | 0 => putColours .rgb10 0 1000 200 50
    | 1 => putColours .rgb10 0 300 300 300
    | 3 => putColours .rgb10 0 800 900 100
    | 6 => putColours .rgb10 0 768 10 10
    | 7 => putColours .rgb10 0 100 200 1023
    | _ => 0

/-- The state of section 3.9 before the beat. -/
def state39 : State :=
  { base with
    grid := { columns := 90, rows := 54, leadLines := 0 }
    windows :=
      base.windows.set 0
        { Window.reset with enable := true, base := 0x20000000#32, pitch := 30720, width := 7680, height := 4320 }
    buffers := base.buffers.set 0 { state := .filling 0, written := 100 }
    banks :=
      base.banks.set 0
        { threshold := 768, zones := ZoneTable.empty.set 0 { peak := 950, sum := 40000, bright := 3, pixels := 80 } } }

/-- Section 3.9: one beat across a column boundary, with one partial word and one word not written. -/
theorem test_beat_across_a_column_boundary :
    let t := after (.requestReceived
      { requester := 5, address := 0x20000140#32, body := .write [{ data := beat39, enables := 0xFFF0F3FF#32 }] }) state39
    t.banks[0].zones.get 0 = { peak := 1000, sum := 42200, bright := 5, pixels := 83 }
    ∧ t.banks[0].zones.get 1 = { peak := 1023, sum := 1791, bright := 2, pixels := 3 }
    ∧ t.buffers[0].written = 106 ∧ t.flag .partialPixel = true := by decide +kernel

/-- Section 10.7: the detail of a string fault of DL3, position 5, channel 9. -/
theorem test_channel_detail : channelDetail 3 5 9 = 0x0659 := by decide

/-! ### One step of a command -/

/-- Section 4.12: the first analysis on a 1 × 1 grid gives gain 374 and, the backlight being OFF, duty 0; tag and History. -/
theorem test_first_analysis :
    let bank : Bank :=
      { threshold := 768, zones := ZoneTable.empty.set 0 { peak := 900, sum := 500000, bright := 17, pixels := 1000 } }
    let s : State :=
      { oneZone base with
        banks := base.banks.set 0 bank, buffers := base.buffers.set 2 { state := .queued 0, written := 5 }, queue := [2]
        lines := base.lines.set 0 (lineIn .running) }
    let t := after .analysisCompletion (after .analysisStart s)
    (t.results[0].duty.get 0, t.results[0].gain.get 0, t.results[0].tag) = (2800, 374, 1)
    ∧ t.buffers[2].state = .ready 0 ∧ t.history.zones.get 0 = { level := 2800, boost := 0 } := by decide +kernel

/-- Section 10.3, slot layout: the commit word of a slot lies in its last four bytes. -/
theorem test_commit_makes_a_slot_pending :
    (after (.requestReceived (writeBeat 0x03FFF060#32 0)) base).ring.pendingSlots = 1
    ∧ (after (.requestReceived (writeBeat 0x03FFF040#32 0)) base).ring.pendingSlots = 0 := by decide +kernel

/-- Section 10.3: the bytes of a status word, CLAMPED with sequence 17h and detail 184 (section 9.9). -/
theorem test_status_word : statusWord (.clamped, 184) 0x17 = 0x00B81702#32 := by decide +kernel

/-- R42: 97 columns are answered BAD_PARAM 1, and the grid stays. -/
theorem test_set_grid_refuses_97_columns :
    let t := after .setGrid (ready (slot 3 8 [(0, 2, 97), (2, 2, 1)]) base)
    (t.ring.executing.map fun c => c.offers.map Injected.purpose) = some [.status (statusWord (.badParam, 1) 5)]
    ∧ t.grid = base.grid := by
  decide +kernel

/-- R111, section 10.8: the SETUP of one driver with one mapped channel. -/
theorem test_setup_bytes :
    ((after (.setupBuild 0) (oneZone (withLine (lineIn .starting)))).lines[0].inFlight.map fun f => f.bytes.dropLast)
      = some [0x01#8, 0x00#8, 0x01#8, 0x00#8, 0x01#8, 0x00#8, 0x00#8, 0x00#8] := by decide +kernel

/-- R82: row 20 of section 11.2 commits when the read-out reaches line 1,520. -/
theorem test_commit_point : commitPoint { columns := 96, rows := 54, leadLines := 80 } 4320 20 = 1520 := by decide

/-- Section 11.3: progress 1,300 has passed rows 0 to 17. -/
theorem test_rows_passed : rowsPassed { columns := 96, rows := 54, leadLines := 80 } 4320 1300 = 18 := by decide +kernel

/-- Section 7.12: seven entries within 60,000 ms lock a line. -/
theorem test_seven_entries_lock : historyFull 7 60000 (historyAdd 7 60000#32 [0, 1, 2, 3, 4, 5]) = true
    ∧ historyFull 7 60000 (historyAdd 7 60001#32 [0, 1, 2, 3, 4, 5]) = false := by decide

end Sys2Proof.Tests
end

