-- ==== Sys2Proof/Tests/Witnesses.lean ====
section
/-! SUPPORT. For every statement with hypotheses, states and operands that meet them all together: `witness_<statement>`, with
one part for each clause, at a boundary of its range where it has one. -/

namespace Sys2Proof.Tests

-- Each closed check waits for the kernel; run one after another they need no thread each.
set_option Elab.async false

open Sys2Proof Sys2Proof.Machine Sys2Proof.Safety

/-! ### The step, RESET_N and the link -/

theorem witness_StepRunsFrontCommand :
    { base with pending := [.downstreamSend, .ocTrip] }.pending = .downstreamSend :: [.ocTrip] ∧ base.pending = [] := by
  decide

theorem witness_ResetIsLeftByItsRelease :
    State.reset.resetAsserted = true ∧ live base ∧ (Instr.window ≠ .resetAsserted ∧ ∀ cfg, Instr.window ≠ .resetReleased cfg)
    ∧ exec .upstreamLinkDown base = .next (after .upstreamLinkDown base) :=
  ⟨rfl, rfl, ⟨by decide, by decide⟩, rfl⟩

/-- A state whose command is a load in phase `phase` of `count` entries of a table. -/
def loading (id : TableId) (count : Nat) (phase : LoadPhase) (s : State) : State :=
  { s with
    ring :=
      { s.ring with
        executing :=
          some
            { snapshot := 0
              offers := []
              load :=
                some
                  { table := id, offset := 0, count := count, clamped := false, source := 0x21000000#32, crc := 0
                    phase := phase } } } }

theorem witness_LinkStateChanges :
    live base ∧ (∀ l b crc kept, base.load = some l → l.phase ≠ .fetching b crc kept)
    ∧ (∀ l b crc kept, (loading .setA 1 .waiting base).load = some l → l.phase ≠ .fetching b crc kept) := by
  refine ⟨rfl, fun l b crc kept h => ?_, fun l b crc kept h => ?_⟩
  · cases h
  · cases h
    simp

theorem witness_DownstreamDownFailsTheFetch :
    let s := loading .limits 1 (.fetching 1 0xFFFF#16 0) base
    live s ∧ ∃ c l, s.ring.executing = some c ∧ c.load = some l ∧ l.phase = .fetching 1 0xFFFF#16 0 :=
  ⟨rfl, _, _, rfl, rfl, rfl⟩

/-- Both links DOWN. -/
def bothDown : State := { base with link := { base.link with upstream := .down, downstream := .down, credits := 0 } }

theorem witness_ProtocolErrorsTakeTheLinkDown :
    live bothDown ∧ bothDown.link.upstream = .down ∧ bothDown.link.downstream = .down
    ∧ live base ∧ base.link.upstream = .up ∧ base.link.downstream = .up ∧ base.link.tracking = []
    ∧ ¬received base { requester := 1, address := 1, body := .read 1 }
    ∧ ¬received base { requester := 1, address := 0, body := .read 0 }
    ∧ ¬received base { requester := 1, address := 0, body := .read 9 }
    ∧ ¬received { base with link := { base.link with credits := 0 } } (readBeat 0) := by
  unfold live received; decide

theorem witness_ReceivedRequestJoinsTheForwardQueue :
    received base { requester := 1, address := 0xFFFFFFE0#32, body := .read 8 }
    ∧ { requester := 1, address := 0xFFFFFFE0#32, body := .read 8 : Request }.isRead = true
    ∧ received { base with link := { base.link with credits := 1 } } (writeBeat 0 0) ∧ (writeBeat 0 0).isRead = false := by
  unfold received; decide

theorem witness_RequestsAreForwardedInOrder :
    exec (.requestReceived (readBeat 0)) base = .next (after (.requestReceived (readBeat 0)) base)
    ∧ Instr.requestReceived (readBeat 0) ≠ .resetAsserted ∧ received base (readBeat 0)
    ∧ exec .downstreamSend base = .next base ∧ Instr.downstreamSend ≠ .resetAsserted
    ∧ ∀ r, Instr.downstreamSend = .requestReceived r → ¬received base r := by
  refine ⟨rfl, by decide, by unfold received; decide, rfl, by decide, fun r h => by cases h⟩

/-- A forwarded READ of one beat. -/
def forwardRead : Forwarded := { request := readBeat 0, classes := [noClass] }

/-- An injected READ of one beat of a fetch. -/
def fetchRead : Injected :=
  { request := { requester := 63, address := 0x21000000#32, body := .read 1 }, purpose := .fetch .setA }

/-- A Link Path with these two queues and this wait count. -/
def queues (f : List Forwarded) (q : List Injected) (wait : Nat) : State :=
  { base with link := { base.link with forward := f, injected := q, waitCount := wait } }

theorem witness_QueuesAreServed :
    live base ∧ base.link.forward = [] ∧ base.link.injected = [] ∧ bothDown.link.downstream = .down
    ∧ (queues [forwardRead] [fetchRead] 31).link.downstream = .up
    ∧ (queues [forwardRead] [fetchRead] 31).link.forward = forwardRead :: []
    ∧ (queues [forwardRead] [fetchRead] 31).link.waitCount < 32
    ∧ (queues [forwardRead] [fetchRead] 32).link.injected = fetchRead :: []
    ∧ 32 ≤ (queues [forwardRead] [fetchRead] 32).link.waitCount := by
  unfold live; decide

/-- A command that has still to offer a request, with `n` requests in the injected queue. -/
def offering (n : Nat) : State :=
  { queues [] (List.replicate n fetchRead) 0 with
    ring := { base.ring with executing := some { snapshot := 0, offers := [fetchRead], load := none } } }

theorem witness_QueuesAreServed_offers :
    live (offering 3) ∧ (offering 3).ring.executing = some { snapshot := 0, offers := [fetchRead], load := none }
    ∧ (offering 3).link.downstream = .up ∧ (offering 3).link.injected.length < 4
    ∧ 4 ≤ (offering 4).link.injected.length := by
  unfold live; decide +kernel

theorem witness_SlotShadowsCaptureWrites :
    0 % 32 = 0 ∧ 0 < 2048 ∧ 2016 % 32 = 0 ∧ 2016 < 2048 ∧ 2048 % 32 = 0 ∧ 2048 ≤ 2048
    ∧ received base (writeBeat 0x03FFFFE0#32 0) ∧ (writeBeat 0x03FFFFE0#32 0).body = .write [{ data := 0, enables := BitVec.allOnes 32 }]
    ∧ 4064 % 32 = 0 ∧ 4064 < 4096 ∧ (writeBeat 0x03FFFFE0#32 0).address.toNat = base.controlBase + 4064 := by
  refine ⟨by decide, by decide, by decide, by decide, by decide, by decide, ?_, rfl, by decide, by decide, by decide⟩
  unfold received
  decide

/-! ### Windows, buffers, analyses -/

theorem witness_PixelsAreLocatedAndMeasured :
    (withBuffer { state := .idle, written := 0 }).locate 0x20003FE0 = .window 0 63 56 8
    ∧ base.locate 0x03FFF000 = .control 0 ∧ base.locate 0x04000000 = .unclassified
    ∧ 1 ≤ base.grid.columns ∧ 1 ≤ base.grid.rows ∧ 63 < 64 := by decide

/-- A whole grey beat. -/
def greyBeat : WriteBeat := { data := grey 500, enables := BitVec.allOnes 32 }

/-- The request that writes it at the start of `window64`. -/
def greyWrite : Request := writeBeat 0x20000000#32 (grey 500)

/-- The conditions of a counting write of that request, as one decidable test. -/
theorem counting_of (s : State)
    (h : s.resetAsserted = false ∧ s.link.upstream = .up ∧ s.link.credits ≠ 0
      ∧ s.locate greyWrite.address.toNat = .window 0 0 0 8
      ∧ filterPasses greyWrite.requester s.windows[(0 : WindowNo)].writerMatch s.windows[(0 : WindowNo)].writerMask = true) :
    CountingWrite s greyWrite greyBeat 0 0 0 8 :=
  { received := ⟨h.1, h.2.1, h.2.2.1, by decide, by decide, by decide⟩
    body := rfl
    place := h.2.2.2.1
    writer := h.2.2.2.2
    whole := by decide +kernel }

theorem witness_CountingWriteMovesTheBuffer :
    (∀ x ∈ [BufferState.idle, .filling 1, .blind, .queued 1, .analysing 1, .ready 4, .shown 4],
      CountingWrite (withBuffer { state := x, written := 8 }) greyWrite greyBeat 0 0 0 8
      ∧ (withBuffer { state := x, written := 8 }).buffers[(0 : WindowNo)].state ≠ .disabled
      ∧ countedBefore (withBuffer { state := x, written := 8 }).buffers[(0 : WindowNo)] + (wholePixels greyBeat 8).length
          < (withBuffer { state := x, written := 8 }).windows[(0 : WindowNo)].area)
    ∧ ∀ x ∈ [BufferState.filling 1, .blind],
        CountingWrite (withBuffer { state := x, written := 4088 }) greyWrite greyBeat 0 0 0 8
        ∧ (withBuffer { state := x, written := 4088 }).windows[(0 : WindowNo)].area
            ≤ (withBuffer { state := x, written := 4088 }).buffers[(0 : WindowNo)].written
                + (wholePixels greyBeat 8).length :=
  ⟨fun x hx => ⟨counting_of _ (by revert x; decide +kernel), by revert x; decide +kernel, by revert x; decide +kernel⟩,
   fun x hx => ⟨counting_of _ (by revert x; decide +kernel), by revert x; decide +kernel⟩⟩

theorem witness_CountingWriteMovesTheBuffer_partial :
    let s := withBuffer { state := .idle, written := 0 }
    let b : WriteBeat := { data := grey 500, enables := 0xFFFFFFF7#32 }
    received s { greyWrite with body := .write [b] } ∧ partialFlags b 8 = [.partialPixel] ∧ wholePixels b 8 ≠ []
    ∧ s.locate greyWrite.address.toNat = .window 0 0 0 8
    ∧ filterPasses greyWrite.requester s.windows[(0 : WindowNo)].writerMatch s.windows[(0 : WindowNo)].writerMask = true
    ∧ wholePixels { data := grey 500, enables := 0x77777777#32 } 8 = []
    ∧ partialFlags { data := grey 500, enables := 0x77777777#32 } 8 = [.partialPixel]
    ∧ s.locate 0x20004000 = .unclassified
    ∧ (let t := { s with windows := base.windows.set 0 { window64 with writerMatch := 1, writerMask := 63 } }
       t.locate greyWrite.address.toNat = .window 0 0 0 8
       ∧ filterPasses greyWrite.requester t.windows[(0 : WindowNo)].writerMatch t.windows[(0 : WindowNo)].writerMask = false) := by
  unfold received partialFlags
  decide +kernel

/-- A WRITE of two whole grey beats at the start of `window64`. -/
def greyWrites : Request := { greyWrite with body := .write ([greyBeat] ++ [greyBeat]) }

theorem witness_ReceivedRequestJoinsTheForwardQueue_beats :
    (let r : Request := { requester := 1, address := 0, body := .read (1 + 1) }
     received base r ∧ 1 ≤ 1
     ∧ exec (.requestReceived { r with body := .read 1 }) base = .next (after (.requestReceived { r with body := .read 1 }) base))
    ∧ (received base greyWrites ∧ [greyBeat] ≠ []
      ∧ exec (.requestReceived greyWrite) base = .next (after (.requestReceived greyWrite) base)
      ∧ ∀ w y x0 n, ¬CountsInto base greyWrites 1 greyBeat w y x0 n)
    ∧ ∀ x ∈ [BufferState.filling 0, .blind], ∀ n ∈ [0, 4080, 4088],
        let s := withBuffer { state := x, written := n }
        received s greyWrites ∧ exec (.requestReceived greyWrite) s = .next (after (.requestReceived greyWrite) s)
        ∧ CountsInto s greyWrites 0 greyBeat 0 0 0 8 ∧ CountsInto s greyWrites 1 greyBeat 0 0 8 8 := by
  refine ⟨⟨?_, Nat.le_refl 1, rfl⟩, ⟨?_, by decide, rfl, ?_⟩, fun x hx n hn => ⟨?_, rfl, ?_, ?_⟩⟩
  · unfold received; decide
  · unfold received; decide
  · rintro w y x0 n ⟨h, -⟩
    rw [show base.locate (greyWrites.beatAddress 1).toNat = .unclassified by decide] at h
    cases h
  · unfold received; revert x n; decide +kernel
  · unfold CountsInto; revert x n; decide +kernel
  · unfold CountsInto; revert x n; decide +kernel

theorem witness_PixelsEnterTheBank :
    let s := withBuffer { state := .idle, written := 0 }
    CountingWrite s greyWrite greyBeat 0 0 0 8 ∧ s.buffers[(0 : WindowNo)].state ≠ .disabled
    ∧ exec (.requestReceived greyWrite) s = .next (after (.requestReceived greyWrite) s)
    ∧ (after (.requestReceived greyWrite) s).buffers[(0 : WindowNo)].state.bank = some 0 :=
  ⟨counting_of _ (by decide +kernel), by decide, rfl, by decide +kernel⟩

/-- Window 0 with a QUEUED buffer. -/
def queuedState : State := { withBuffer { state := .queued 0, written := 4096 } with queue := [0] }

theorem queuedState_inv : BufferInv queuedState :=
  { enabled := by decide
    banks := by decide
    slots := by decide
    once := by decide
    queued := by decide
    analysing := fun w b =>
      ⟨fun h => absurd h (by revert w b; decide), fun h => by obtain ⟨a, ha, _⟩ := h; cases ha⟩
    own := fun a ha => by cases ha }

theorem witness_AnalysisStartsOnTheHead :
    live queuedState ∧ BufferInv queuedState ∧ queuedState.engine.analysis = none ∧ queuedState.queue = 0 :: []
    ∧ base.queue = [] := ⟨rfl, queuedState_inv, rfl, rfl, rfl⟩

theorem witness_AnalysisStartsOnTheHead_snapshot :
    queuedState.engine.selected = .a ∧ queuedState.tables.setAState ≠ .valid
    ∧ (let s := { queuedState with tables := { queuedState.tables with setAState := .valid } }
       s.engine.selected = .a ∧ s.tables.setAState = .valid)
    ∧ (let s :=
         { queuedState with
           tables := { queuedState.tables with setBState := .valid }, engine := { queuedState.engine with selected := .b } }
       s.engine.selected = .b ∧ s.tables.setBState = .valid)
    ∧ { queuedState with engine := { queuedState.engine with selected := .b } }.tables.setBState ≠ .valid := by
  decide

/-- An analysis of buffer 0 under bank 0 in slot 1. -/
def analysing (scan : ScanTracker) : State :=
  { withBuffer { state := .analysing 0, written := 4096 } with
    engine :=
      { base.engine with
        tag := 42, analysis := some { buffer := 0, bank := 0, slot := 1, tag := 42, snap := base.snapshot } }
    scan := scan }

/-- A scan of window 0 that waits for a result. -/
def heldScan : ScanTracker := { ScanTracker.reset with pointer := some 0, passed := 1 }

theorem witness_AnalysisCompletes :
    base.engine.analysis = none ∧ live (analysing base.scan)
    ∧ (analysing base.scan).engine.analysis.isSome = true
    ∧ ¬((analysing base.scan).scan.pointer = some 0 ∧ (analysing base.scan).scan.result = none)
    ∧ live (analysing heldScan) ∧ (analysing heldScan).scan.pointer = some 0 ∧ (analysing heldScan).scan.result = none := by
  unfold live; decide

theorem witness_ResultKeepsItsBounds :
    let a : Analysis := { buffer := 0, bank := 0, slot := 1, tag := 42, snap := base.snapshot }
    0 < base.grid.zones ∧ a.snap.mapState ≠ .valid ∧ gainOk a.snap.params.gainCeiling
    ∧ (analyse base.grid base.banks[(0 : BankNo)] a).result.budgetLimited = false
    ∧ gainOk defaultParams.gainCeiling ∧ 256 ≤ defaultParams.eRef * 256 / 1024
    ∧ defaultParams.eRef * 256 / 1024 ≤ defaultParams.gainCeiling ∧ defaultParams.eRef * 256 / 4096 < 256 := by
  unfold gainOk; decide +kernel

/-! ### Scan, fallback, returns -/

/-- Window 0 with a READY buffer, on a grid of one column and two rows. -/
def readyState (scan : ScanTracker) : State :=
  { withBuffer { state := .ready 2, written := 4096 } with
    grid := { columns := 1, rows := 2, leadLines := 0 }, scan := scan }

theorem scanRead (s : State) (y : Nat) (h : s.locate (0x20000000 + 256 * y) = .window 0 y 0 8)
    (ha : (0x20000000 + 256 * y) % 2 ^ 32 = 0x20000000 + 256 * y) (hl : live s) (hu : s.link.upstream = .up)
    (hc : s.link.credits ≠ 0) (hf : filterPasses 9 s.windows[(0 : WindowNo)].scanMatch s.windows[(0 : WindowNo)].scanMask = true) :
    ScanRead s (readBeat (BitVec.ofNat 32 (0x20000000 + 256 * y))) 0 y 0 8 :=
  { received := by
      refine ⟨hl, hu, hc, Nat.le_refl 1, (by decide : 1 ≤ 8), ?_⟩
      show (BitVec.ofNat 32 (0x20000000 + 256 * y)).toNat % 32 = 0
      rw [BitVec.toNat_ofNat, ha]
      omega
    body := rfl
    place := by
      show s.locate (BitVec.ofNat 32 (0x20000000 + 256 * y)).toNat = _
      rw [BitVec.toNat_ofNat, ha]
      exact h
    scan := hf }

theorem witness_ScanStartsWithAResult :
    let s := readyState ScanTracker.reset
    ScanRead s (readBeat (BitVec.ofNat 32 (0x20000000 + 256 * 31))) 0 31 0 8 ∧ s.buffers[(0 : WindowNo)].state.result = some 2
    ∧ 31 < s.windows[(0 : WindowNo)].height / s.grid.rows ∧ s.scan.pointer ≠ some 0 :=
  ⟨scanRead _ 31 (by decide) (by decide) rfl rfl (by decide) rfl, by decide, by decide, by decide⟩

/-- A scan of window 1 whose result in slot 3 is committed as far as row 0. -/
def otherScan : ScanTracker :=
  { ScanTracker.reset with pointer := some 1, result := some 3, progress := 9, passed := 1, committed := 1 }

/-- A state with an unreleased trip of mode NEXT_SCAN. -/
def tripped (s : State) : State :=
  { s with protection := { s.protection with trip := some { mode := .nextScan, elapsed := 0 } } }

theorem witness_ScanStartsWithAResult_flush :
    let s := tripped (readyState otherScan)
    ScanRead s (readBeat (BitVec.ofNat 32 (0x20000000 + 256 * 0))) 0 0 0 8 ∧ s.buffers[(0 : WindowNo)].state.result = some 2
    ∧ 0 < s.windows[(0 : WindowNo)].height / s.grid.rows ∧ s.scan.pointer ≠ some 0 ∧ flushed s = some 3
    ∧ afterScanStart s.protection = { s.protection with trip := none, filterCount := 0 } :=
  ⟨scanRead _ 0 (by decide) (by decide) rfl rfl (by decide) rfl, by decide, by decide, by decide, rfl, rfl⟩

/-- A complete scan of window 0 at its last line. -/
def completeScan : ScanTracker := { ScanTracker.reset with pointer := some 0, progress := 63, passed := 2 }

theorem witness_ScanHoldsWithoutAResult :
    (let s := { readyState completeScan with buffers := base.buffers.set 0 { state := .queued 1, written := 4096 } }
     ScanRead s (readBeat (BitVec.ofNat 32 (0x20000000 + 256 * 0))) 0 0 0 8 ∧ s.buffers[(0 : WindowNo)].state.result = none
     ∧ 0 < s.windows[(0 : WindowNo)].height / s.grid.rows ∧ s.scan.passed = s.grid.rows ∧ 0 < s.scan.progress)
    ∧ (let s := { tripped (readyState otherScan) with buffers := base.buffers.set 0 { state := .idle, written := 0 } }
       ScanRead s (readBeat (BitVec.ofNat 32 (0x20000000 + 256 * 0))) 0 0 0 8 ∧ s.buffers[(0 : WindowNo)].state.result = none
       ∧ 0 < s.windows[(0 : WindowNo)].height / s.grid.rows ∧ s.scan.pointer ≠ some 0 ∧ flushed s = some 3
       ∧ s.protection.trip.map Trip.mode = some .nextScan) :=
  ⟨⟨scanRead _ 0 (by decide) (by decide) rfl rfl (by decide) rfl, by decide, by decide, by decide, by decide⟩,
   ⟨scanRead _ 0 (by decide) (by decide) rfl rfl (by decide) rfl, by decide, by decide, by decide, rfl, rfl⟩⟩

theorem witness_ScanReadsAdvanceTheScan :
    let s := readyState { ScanTracker.reset with pointer := some 0, result := some 2, passed := 1, committed := 1 }
    ScanRead s (readBeat (BitVec.ofNat 32 (0x20000000 + 256 * 32))) 0 32 0 8 ∧ s.scan.pointer = some 0
    ∧ s.windows[(0 : WindowNo)].height / s.grid.rows ≤ 32 ∧ 1 ≤ s.grid.rows :=
  ⟨scanRead _ 32 (by decide) (by decide) rfl rfl (by decide) rfl, by decide, by decide, by decide⟩

theorem witness_ScanReadsAdvanceTheScan_ignored :
    (received base (readBeat 0x03FFF000#32) ∧ base.locate 0x03FFF000 = .control 0)
    ∧ (received base (readBeat 0x03FFFFE0#32) ∧ base.locate 0x03FFFFE0 = .control 0xFE0)
    ∧ (received base (readBeat 0x04000000#32) ∧ base.locate 0x04000000 = .unclassified)
    ∧ (let s := readyState ScanTracker.reset
       ScanRead s (readBeat (BitVec.ofNat 32 (0x20000000 + 256 * 32))) 0 32 0 8 ∧ s.scan.pointer ≠ some 0
       ∧ s.windows[(0 : WindowNo)].height / s.grid.rows ≤ 32)
    ∧ (let t := readyState ScanTracker.reset
       let s := { t with windows := t.windows.set 0 { window64 with scanMatch := 8, scanMask := 63 } }
       received s (readBeat 0x20000000#32) ∧ s.locate 0x20000000 = .window 0 0 0 8
       ∧ filterPasses 9 s.windows[(0 : WindowNo)].scanMatch s.windows[(0 : WindowNo)].scanMask = false) := by
  refine ⟨⟨?_, by decide⟩, ⟨?_, by decide⟩, ⟨?_, by decide⟩,
    ⟨scanRead _ 32 (by decide) (by decide) rfl rfl (by decide) rfl, by decide, by decide⟩, ⟨?_, by decide, by decide⟩⟩ <;>
    unfold received <;> decide

/-- The supervision timer at `e` milliseconds. -/
def supervised (e : Nat) (f : FallbackState) : State :=
  { base with scan := { ScanTracker.reset with pointer := some 0, supervision := .running e, fallback := f } }

theorem witness_SupervisionTimerExpires :
    live (supervised 100 .normal) ∧ (supervised 100 .normal).scan.supervision = .running 100
    ∧ (supervised 100 .normal).limits.scanTimeout ≤ 100 ∧ (supervised 100 .normal).scan.fallback = .normal
    ∧ (supervised 100 .fallback).scan.fallback = .fallback
    ∧ (∀ e, (supervised 99 .normal).scan.supervision = .running e → e < (supervised 99 .normal).limits.scanTimeout) := by
  refine ⟨rfl, rfl, by decide, rfl, rfl, fun e h => ?_⟩
  cases h
  decide

/-- A tracked READ of one beat with this origin. -/
def tracking (o : Origin) (u : LinkState) : State :=
  { base with link := { base.link with upstream := u, tracking := [{ origin := o, beatCount := 1, received := 0 }] } }

theorem drive_in_range (z : Nat) : gainOk (base.drive.get z).gain ∧ (base.drive.get z).duty ≤ 4095 := by
  show gainOk 256 ∧ 0 ≤ 4095
  unfold gainOk
  decide

theorem witness_ForwardedReturnIsNeverLowered :
    ∀ u : LinkState, live (tracking (.forwarded [class69]) u) ∧ (tracking (.forwarded [class69]) u).link.downstream = .up
      ∧ (tracking (.forwarded [class69]) u).link.tracking
          = [{ origin := .forwarded [class69], beatCount := 1, received := 0 }]
      ∧ ∀ z, 256 ≤ ((tracking (.forwarded [class69]) u).drive.get z).gain :=
  fun _ => ⟨rfl, rfl, rfl, fun z => (drive_in_range z).1.1⟩

theorem witness_ForwardedReturnIsNeverLowered_fits :
    class69.compensate = true ∧ 1 ≤ class69.active ∧ 8 * base.grid.columns ≤ class69.width ∧ 8 * base.grid.rows ≤ class69.height
    ∧ 7 < class69.active ∧ noClass.compensate = false ∧ noClass.active ≤ 0 := by decide

theorem witness_PixelsAreScaledByPlace :
    1 ≤ 96 ∧ 8 * 96 ≤ 768 ∧ 21 < 0 * 7680 / 96 + (0 + 1) * 7680 / 96 ∧ 0 * 7680 / 96 + (0 + 1) * 7680 / 96 ≤ 80
    ∧ (place 96 7680 15351).1 + 1 = 96 ∧ (place 96 7680 201).1 + 1 < 96 ∧ 256 ≤ 256 := by decide +kernel

/-! ### Driver lines -/

/-- A frame in flight of a kind, three bytes and a check code. -/
def flight (k : FrameKind) : Frame :=
  { kind := k, bytes := frameBytes k 0 1 (if k = .poll then List.replicate 5 0 else [7]), mask := 3, ended := false
    afterCeiling := true }

/-- DL0 in a state with a frame of a kind in flight and this many failures, one driver. -/
def flying (x : LineState) (k : FrameKind) (failures : Nat) : State :=
  oneZone (withLine { lineIn x with inFlight := some (flight k), failures := failures })

theorem witness_SetupIsBuilt :
    let s := oneZone (withLine (lineIn .starting))
    let r := oneZone (withLine { lineIn .running with setupOwed := true })
    live s ∧ s.lines[(0 : LineNo)].inFlight = none ∧ s.lines[(0 : LineNo)].state = .starting
    ∧ live r ∧ r.lines[(0 : LineNo)].inFlight = none ∧ r.lines[(0 : LineNo)].state = .running
    ∧ r.lines[(0 : LineNo)].setupOwed = true ∧ 0 < s.driverCount 0 := by
  unfold live; decide +kernel

/-- DL0 RUNNING with channel 0 of position 0 dirty. -/
def dirtyLine : State := oneZone (withLine { lineIn .running with dirty := 1, latchOwed := true })

theorem levels_of (s : State) (hd : s.drive = ZoneTable.empty) (hr : s.results = State.reset.results)
    (ha : s.engine.analysis = none) : LevelInv s :=
  { drive := fun z => by
      rw [hd]
      show 0 ≤ 4095 ∧ gainOk 256
      unfold gainOk; decide
    results := fun k => by
      have h : s.results[k] = Result.unwritten := by rw [hr]; revert k; decide +kernel
      rw [h]
      intro z
      show 0 ≤ 4095 ∧ gainOk 256
      unfold gainOk; decide
    ceiling := fun a h => by rw [ha] at h; cases h }

theorem witness_LevelCarriesTheDuties :
    live dirtyLine ∧ LevelInv dirtyLine ∧ dirtyLine.lines[(0 : LineNo)].inFlight = none
    ∧ dirtyLine.lines[(0 : LineNo)].state = .running ∧ dirtyLine.lines[(0 : LineNo)].setupOwed = false ∧ 0 ≤ 0
    ∧ 0 < dirtyLine.driverCount 0 ∧ positionFlags dirtyLine.lines[(0 : LineNo)].dirty 0 ≠ 0
    ∧ ∀ p, p < dirtyLine.driverCount 0 → positionFlags dirtyLine.lines[(0 : LineNo)].dirty p ≠ 0 → 0 ≤ p ∧ p ≤ 0 := by
  refine ⟨rfl, levels_of _ rfl rfl rfl, by decide, by decide, by decide, by decide, by decide +kernel, by decide +kernel,
    fun p hp _ => ?_⟩
  have h : dirtyLine.driverCount 0 = 1 := by decide +kernel
  omega

theorem witness_LatchAndPollAreBuilt :
    ∀ b : Bool,
      let s := oneZone (withLine { lineIn .running with latchOwed := b, pollDue := true })
      live s ∧ s.lines[(0 : LineNo)].inFlight = none ∧ s.lines[(0 : LineNo)].state = .running
      ∧ s.lines[(0 : LineNo)].setupOwed = false ∧ s.lines[(0 : LineNo)].dirty = 0 ∧ s.lines[(0 : LineNo)].latchOwed = b
      ∧ s.lines[(0 : LineNo)].pollDue = true := by
  unfold live; decide +kernel

theorem witness_GoodReturnFreesTheLine :
    ∀ k ∈ [FrameKind.setup, .level, .latch], ∀ x ∈ [LineState.starting, .running],
      live (flying x k 2) ∧ (flying x k 2).lines[(0 : LineNo)].inFlight = some (flight k) ∧ (flight k).kind = k
      ∧ (flight k).ended = false ∧ (flying x k 2).lines[(0 : LineNo)].state = x
      ∧ (flying x k 2).protection.sequencer ≠ .draining ∧ (flying x k 2).protection.sequencer ≠ .dropping := by
  unfold live; decide +kernel

/-- A state in POWERING_DOWN with this sequencer phase. -/
def falling (q : Sequencer) (s : State) : State :=
  { s with protection := { s.protection with backlight := .poweringDown, sequencer := q } }

theorem witness_GoodReturnFreesTheLine_falling :
    ∀ q ∈ [Sequencer.draining, .dropping],
      live (falling q (flying .running .latch 0)) ∧ (falling q (flying .running .latch 0)).protection.backlight = .poweringDown
      ∧ (falling q (flying .running .latch 0)).protection.sequencer = q
      ∧ (falling q (flying .running .latch 0)).lines[(0 : LineNo)].inFlight = some (flight .latch)
      ∧ (flight .latch).kind = .latch ∧ ([] : List Byte).length ≠ (flight .latch).bytes.length := by
  unfold live; decide +kernel

theorem witness_PowerDownTested :
    (let a := falling .draining base
     ∀ l : LineNo, a.lines[l].state ≠ .running)
    ∧ (let a := falling .dropping (withLine (lineIn .running))
       a.protection.sequencer = .dropping ∧ a.lines[(0 : LineNo)].state = .running)
    ∧ (let a := falling .draining (withLine { lineIn .running with ceilingLatched := false })
       a.lines[(0 : LineNo)].state = .running ∧ a.lines[(0 : LineNo)].ceilingLatched = false)
    ∧ ∀ one ∈ [LineState.running, .off],
        let a := falling .draining { base with lines := (base.lines.set 2 (lineIn .running)).set 1 (lineIn one) }
        a.protection.sequencer = .draining ∧ a.lines[(2 : LineNo)].state = .running
        ∧ (∀ m : LineNo, 2 < m → a.lines[m].state ≠ .running)
        ∧ (∀ l : LineNo, a.lines[l].state = .running → a.lines[l].ceilingLatched = true)
        ∧ ((∃ m : LineNo, m < 2 ∧ a.lines[m].state = .running) ↔ one = .running) := by
  decide +kernel

theorem witness_PollReportsAreActedOn :
    live (flying .running .poll 0) ∧ (flying .running .poll 0).lines[(0 : LineNo)].inFlight = some (flight .poll)
    ∧ (flight .poll).kind = .poll
    ∧ (let bytes := frameBytes .poll 0 1 [0x80#8, 1#8, 0#8, 0#8, 3#8]
       bytes.length = (flight .poll).bytes.length ∧ bytes.take 3 = (flight .poll).bytes.take 3
       ∧ bytes.getLast? = some (crc8 bytes.dropLast)) := by
  unfold live; decide +kernel

theorem witness_PollReportsAreActedOn_channels :
    let s := flying .running .poll 0
    let t := { s with faults := { openMarks := 1, shortMarks := 0 } }
    s.channelZone 0 0 0 = some 0 ∧ s.zoneMarked .openString 0 = false ∧ 0 < 5184 ∧ s.channelZone 0 23 15 = none
    ∧ 23 < 24 ∧ 15 < 16 ∧ t.channelZone 0 0 0 = some 0 ∧ t.zoneMarked .openString 0 = true := by decide +kernel

theorem witness_PollReportsAreActedOn_confirms :
    let s := oneZone (withLine { lineIn .running with inFlight := some (flight .poll), openSuspect := 1 })
    let bytes := frameBytes .poll 0 1 [0x00#8, 1#8, 0#8, 0#8, 3#8]
    live s ∧ s.lines[(0 : LineNo)].inFlight = some (flight .poll) ∧ bytes.length = (flight .poll).bytes.length
    ∧ bytes.take 3 = (flight .poll).bytes.take 3 ∧ bytes.getLast? = some (crc8 bytes.dropLast)
    ∧ confirmedZone s 0 bytes .openString 0 0 = some 0 ∧ confirmedZone s 0 bytes .shortString 0 0 = none
    ∧ pollEvents s 0 bytes = [(.zoneOpen, .zone 0, 0), (.driverHot, .line 0, 0)] := by
  unfold live; decide +kernel

theorem witness_FailedFrameIsOwedAgain :
    (∀ k ∈ [FrameKind.setup, .level, .latch, .poll], ∀ n ∈ [1, 2],
      live (flying .running k n) ∧ (flying .running k n).lines[(0 : LineNo)].inFlight = some (flight k)
      ∧ (flying .running k n).lines[(0 : LineNo)].failures = n
      ∧ badReturn (flight k) (List.replicate (flight k).bytes.length (0xFF#8))
      ∧ (flying .running k n).protection.backlight ≠ .poweringDown
      ∧ (flying .running k n).protection.sequencer ≠ .draining
      ∧ (flying .running k n).protection.sequencer ≠ .dropping)
    ∧ ∀ q ∈ [Sequencer.draining, .dropping],
        live (falling q (flying .running .level 2)) ∧ (falling q (flying .running .level 2)).protection.backlight = .poweringDown
        ∧ (falling q (flying .running .level 2)).protection.sequencer = q
        ∧ (falling q (flying .running .level 2)).lines[(0 : LineNo)].inFlight = some (flight .level)
        ∧ 2 ≤ (falling q (flying .running .level 2)).lines[(0 : LineNo)].failures := by
  unfold live badReturn; decide +kernel

/-- DL0 in a state with its timers at `e`, under a backlight state. -/
def timed (x : LineState) (e : Nat) (b : Backlight) (q : Sequencer) : State :=
  let s := oneZone (withLine { lineIn x with pollTimer := .running e, stateTimer := .running e, slotUs := 1000 })
  { s with protection := { s.protection with backlight := b, sequencer := q } }

theorem witness_LineTimersExpire :
    (live (timed .running 10 .on .idle) ∧ (timed .running 10 .on .idle).lines[(0 : LineNo)].state = .running
      ∧ (timed .running 10 .on .idle).lines[(0 : LineNo)].pollTimer = .running 10)
    ∧ ((timed .faulted 9 .on .idle).lines[(0 : LineNo)].state = .faulted
      ∧ (timed .faulted 9 .on .idle).lines[(0 : LineNo)].stateTimer = .running 9
      ∧ 9 < (timed .faulted 9 .on .idle).retryDelay 0)
    ∧ (∀ b ∈ [Backlight.on, .off],
        live (timed .faulted 10 b .idle) ∧ (timed .faulted 10 b .idle).lines[(0 : LineNo)].state = .faulted
        ∧ (timed .faulted 10 b .idle).lines[(0 : LineNo)].stateTimer = .running 10
        ∧ (timed .faulted 10 b .idle).retryDelay 0 ≤ 10 ∧ (timed .faulted 10 b .idle).protection.backlight = b)
    ∧ (∀ e ∈ [999, 1000],
        live (timed .waitSlot e .poweringUp (.up [] 0))
        ∧ (timed .waitSlot e .poweringUp (.up [] 0)).lines[(0 : LineNo)].state = .waitSlot
        ∧ (timed .waitSlot e .poweringUp (.up [] 0)).lines[(0 : LineNo)].stateTimer = .running e
        ∧ (timed .waitSlot e .poweringUp (.up [] 0)).lines[(0 : LineNo)].slotUs = 1000
        ∧ (timed .waitSlot e .poweringUp (.up [] 0)).protection.sequencer = .up [] 0
        ∧ (timed .waitSlot e .poweringUp (.up [] 0)).protection.backlight = .poweringUp)
    ∧ (timed .waitSlot 1000 .poweringUp (.up [1] 0)).protection.sequencer ≠ .up [] 0 := by
  unfold live; decide +kernel

/-! ### Sequencing and protection -/

/-- The step timer at `e` microseconds in a phase, with DL2 and possibly DL1 RUNNING. -/
def stepping (q : Sequencer) (b : Backlight) (e : Nat) (one : LineState) : State :=
  { base with
    lines := (base.lines.set 2 (lineIn .running)).set 1 (lineIn one)
    protection := { base.protection with backlight := b, sequencer := q, stepTimer := .running e } }

theorem witness_SequencerSteps :
    (∀ e ∈ [999, 1000],
      live (stepping (.up [3] 2) .poweringUp e .off)
      ∧ (stepping (.up [3] 2) .poweringUp e .off).protection.sequencer = .up (3 :: []) 2
      ∧ (stepping (.up [3] 2) .poweringUp e .off).protection.stepTimer = .running e
      ∧ (stepping (.up [3] 2) .poweringUp e .off).limits.slotUs = 1000)
    ∧ ∀ e ∈ [999, 1000], ∀ one ∈ [LineState.running, .off],
        live (stepping .dropping .poweringDown e one)
        ∧ (stepping .dropping .poweringDown e one).protection.sequencer = .dropping
        ∧ (stepping .dropping .poweringDown e one).protection.stepTimer = .running e
        ∧ (stepping .dropping .poweringDown e one).protection.backlight = .poweringDown
        ∧ (stepping .dropping .poweringDown e one).lines[(2 : LineNo)].state = .running
        ∧ (∀ m : LineNo, 2 < m → (stepping .dropping .poweringDown e one).lines[m].state ≠ .running)
        ∧ ((∃ m : LineNo, m < 2 ∧ (stepping .dropping .poweringDown e one).lines[m].state = .running) ↔ one = .running) := by
  unfold live; decide +kernel

theorem witness_SequencerSteps_idle :
    live base ∧ (∀ l rest last, base.protection.sequencer ≠ .up (l :: rest) last) ∧ base.protection.sequencer ≠ .dropping
    ∧ base.protection.stepTimer = .stopped :=
  ⟨rfl, nofun, nofun, rfl⟩

/-- A sample with T and TDIE. -/
def temps (t d : BitVec 12) : SampleSet := { vled := 100, tb0 := t, tb1 := 0, tdie := d }

theorem witness_SampleMovesThermalAndSupply :
    live base ∧ base.protection.thermal ≠ .shutdown ∧ thermalNext base.limits (temps 3200 0) base.protection.thermal = .hot
    ∧ Thermal.hot ≠ .shutdown ∧ supplyNext base.limits 100 base.protection.supply = .ok
    ∧ ¬((base.limits.shutdown : Int) ≤ (max 3599 0 : Nat) ∨ base.limits.dieLimit ≤ 3699) := by
  unfold live; decide

theorem witness_ShutdownStopsEveryLine :
    let s := { base with protection := { base.protection with backlight := .on } }
    live s ∧ s.protection.thermal ≠ .shutdown ∧ thermalNext s.limits (temps 3600 0) s.protection.thermal = .shutdown
    ∧ thermalNext s.limits (temps 0 3700) s.protection.thermal = .shutdown ∧ s.protection.backlight = .on := by
  unfold live; decide

theorem witness_ShutdownStopsEveryLine_lines :
    (let s := flying .running .level 0
     let t := { s with protection := { s.protection with backlight := .on }, lines := s.lines.set 1 (lineIn .locked) }
     live t ∧ thermalNext t.limits (temps 3600 0) t.protection.thermal = .shutdown ∧ lightsUp t.protection.backlight
     ∧ t.lines[(0 : LineNo)].state = .running ∧ t.lines[(0 : LineNo)].inFlight ≠ none
     ∧ t.lines[(1 : LineNo)].state = .locked)
    ∧ (let s := flying .running .level 0
       let t := { s with protection := { s.protection with thermal := .hot } }
       live t ∧ thermalNext t.limits (temps 3600 0) t.protection.thermal = .shutdown ∧ ¬lightsUp t.protection.backlight
       ∧ t.lines[(0 : LineNo)].state = .running ∧ (after (.analogSample (temps 3600 0)) t).ceiling ≠ t.ceiling)
    ∧ (let s := { base with ms := 60000, protection := { base.protection with shutdownHistory := List.replicate 6 1 } }
       live s ∧ thermalNext s.limits (temps 3600 0) s.protection.thermal = .shutdown
       ∧ ((s.protection.shutdownHistory ++ [s.ms + 1]).drop (s.protection.shutdownHistory.length - 6)).length = 7
       ∧ (s.ms + 1 - 1).toNat ≤ 60000) := by
  unfold live; decide +kernel

/-- SHUTDOWN with the cool-down count at `n`. -/
def cooling (n : Nat) (target : Bool) : State :=
  let s := oneZone base
  { s with protection := { s.protection with thermal := .shutdown, coolDown := n, backlight := .thermalOff, target := target } }

theorem witness_CoolDownLeavesShutdown :
    (∀ b : Bool,
      live (cooling 999 b) ∧ (cooling 999 b).protection.thermal = .shutdown ∧ (cooling 999 b).protection.coolDown = 999
      ∧ max 3099 0 + (cooling 999 b).limits.thermalHysteresis < (cooling 999 b).limits.hot
      ∧ 3599 + (cooling 999 b).limits.thermalHysteresis < (cooling 999 b).limits.dieLimit
      ∧ (cooling 999 b).protection.backlight = .thermalOff ∧ (cooling 999 b).protection.target = b
      ∧ (cooling 999 b).tables.zoneMapState = .valid ∧ (cooling 999 b).tables.lineSetupState = .valid
      ∧ (cooling 999 b).tables.limitsState = .valid)
    ∧ live (cooling 998 true) ∧ (cooling 998 true).protection.thermal = .shutdown
    ∧ (cooling 998 true).protection.coolDown < 999
    ∧ supplyNext (cooling 998 true).limits 100 (cooling 998 true).protection.supply = (cooling 998 true).protection.supply := by
  unfold live; decide +kernel

theorem witness_CoolDownLeavesShutdown_warm :
    live (cooling 999 true) ∧ (cooling 999 true).protection.thermal = .shutdown
    ∧ ¬(max 3100 0 + (cooling 999 true).limits.thermalHysteresis < (cooling 999 true).limits.hot
        ∧ 0 + (cooling 999 true).limits.thermalHysteresis < (cooling 999 true).limits.dieLimit)
    ∧ (let s := { cooling 5 true with protection := { (cooling 5 true).protection with supply := .uv } }
       live s ∧ s.protection.thermal = .shutdown ∧ s.protection.coolDown < 999
       ∧ supplyNext s.limits 4095 s.protection.supply = .ok ∧ s.protection.supply ≠ .ok) := by
  unfold live; decide +kernel

theorem witness_CoolDownLeavesShutdown_exits :
    (let s := { cooling 999 true with protection := { (cooling 999 true).protection with backlight := .off } }
     live s ∧ s.protection.thermal = .shutdown ∧ s.protection.coolDown = 999 ∧ s.protection.backlight ≠ .thermalOff)
    ∧ (let s := { cooling 999 true with tables := { (cooling 999 true).tables with zoneMapState := .invalid } }
       live s ∧ s.protection.thermal = .shutdown ∧ s.protection.coolDown = 999 ∧ s.protection.backlight = .thermalOff
       ∧ s.protection.target = true ∧ s.tables.zoneMapState ≠ .valid)
    ∧ (cooling 999 true).limits.warm ≤ boardTemp (temps 2700 0) + (cooling 999 true).limits.thermalHysteresis
    ∧ ¬(cooling 999 true).limits.warm ≤ boardTemp (temps 2699 0) + (cooling 999 true).limits.thermalHysteresis := by
  unfold live; decide +kernel

/-- The filter count at `n`, `e` microseconds after the latest LATCH end. -/
def filtering (n e : Nat) (trip : Option Trip) : State :=
  { base with protection := { base.protection with filterCount := n, sinceLatch := some e, trip := trip } }

theorem witness_OvercurrentFilterCounts :
    live (filtering 2 20 none) ∧ (filtering 2 20 none).protection.filterCount + 1 < (filtering 2 20 none).limits.ocFilter
    ∧ live (filtering 3 19 none) ∧ (filtering 3 19 none).protection.sinceLatch = some 19
    ∧ 19 < (filtering 3 19 none).limits.blankUs
    ∧ live (filtering 3 20 (some { mode := .manual, elapsed := 0 }))
    ∧ (filtering 3 20 (some { mode := .manual, elapsed := 0 })).protection.trip ≠ none := by
  unfold live; decide

theorem witness_OvercurrentTripsAndReleases :
    live (filtering 3 20 none) ∧ (filtering 3 20 none).protection.trip = none
    ∧ (∀ e, (filtering 3 20 none).protection.sinceLatch = some e → (filtering 3 20 none).limits.blankUs ≤ e)
    ∧ (filtering 3 20 none).limits.ocFilter ≤ (filtering 3 20 none).protection.filterCount + 1
    ∧ (∀ n ∈ [9999, 10000],
        live (filtering 0 0 (some { mode := .timed, elapsed := n }))
        ∧ (filtering 0 0 (some { mode := .timed, elapsed := n })).protection.trip = some { mode := .timed, elapsed := n })
    ∧ (filtering 0 0 (some { mode := .nextScan, elapsed := 10000 })).protection.trip
        = some { mode := .nextScan, elapsed := 10000 } := by
  refine ⟨rfl, rfl, fun e h => ?_, by decide, by unfold live; decide, rfl⟩
  cases h
  decide

theorem witness_DerivedFiguresOfProtection :
    (stepping .dropping .poweringDown 0 .off).protection.backlight = .poweringDown
    ∧ base.protection.backlight ≠ .poweringDown ∧ base.protection.thermal ≠ .hot ∧ base.tables.limitsState ≠ .valid
    ∧ base.protection.thermal = .normal ∧ base.protection.supply = .ok
    ∧ (let s := { base with protection := { base.protection with thermal := .hot, supply := .low } }
       s.protection.backlight ≠ .poweringDown ∧ s.protection.thermal = .hot ∧ s.protection.thermal ≠ .normal
       ∧ s.protection.supply ≠ .ok)
    ∧ { base.protection with thermal := .warm }.thermal ≠ .normal ∧ { base.protection with supply := .low }.supply ≠ .ok := by
  decide

/-- The backlight ON with DL0 RUNNING. -/
def lit : State :=
  let s := oneZone (withLine (lineIn .running))
  { s with protection := { s.protection with backlight := .on, target := true } }

theorem lit_power : PowerInv lit :=
  { dark := fun h => absurd h (by decide)
    up := fun h => absurd h (by decide)
    on := fun _ => rfl
    falling := fun h => absurd h (by decide)
    flying := fun l f h => by
      have : ∀ l : LineNo, lit.lines[l].inFlight = none := by decide +kernel
      rw [this l] at h
      cases h }

theorem noLoad (s : State) (h : s.load = none) (ht : ∀ id : TableId, s.tables.stateOf id ≠ .loading) : TableInv s :=
  fun id => ⟨fun hl => absurd hl (ht id), fun he => by
    obtain ⟨l, _, _, _, hl, _⟩ := he
    rw [h] at hl
    cases hl⟩

theorem witness_ChangesAreSignalled :
    Instr.analogSample (temps 3200 0) ≠ .resetAsserted
    ∧ exec (.analogSample (temps 3200 0)) lit = .next (after (.analogSample (temps 3200 0)) lit)
    ∧ PowerInv lit ∧ TableInv lit ∧ (after (.analogSample (temps 3200 0)) lit).ceiling ≠ lit.ceiling
    ∧ lit.lines[(0 : LineNo)].state = .running
    ∧ (after (.analogSample (temps 3200 0)) lit).lines[(0 : LineNo)].state = .running
    ∧ exec (.analogSample (temps 3600 0)) lit = .next (after (.analogSample (temps 3600 0)) lit)
    ∧ (after (.analogSample (temps 3600 0)) lit).protection.backlight ≠ lit.protection.backlight := by
  refine ⟨by decide, rfl, lit_power, noLoad _ rfl (fun id => by cases id <;> decide), by decide +kernel, by decide,
    by decide +kernel, rfl, by decide +kernel⟩

/-! ### Commands of the control region -/

/-- What a command finds that begins with this slot image. -/
theorem begins (snap : BitVec 1024) (s : State)
    (h : s.resetAsserted = false ∧ s.ring.executing = none ∧ s.ring.index = 0 ∧ s.link.downstream = .up) :
    canBegin (ready snap s) snap := by
  obtain ⟨h1, h2, h3, h4⟩ := h
  unfold canBegin ready
  simp [h1, h2, h3, h4]

theorem witness_HeaderChecksAnswer :
    (canBegin (ready (slot 0 4 []) base) (slot 0 4 []) ∧ commandCode (slot 0 4 []) = 0)
    ∧ (canBegin (ready (slot 10 4 []) base) (slot 10 4 []) ∧ 9 < commandCode (slot 10 4 []))
    ∧ (canBegin (ready (slot 1 19 []) base) (slot 1 19 []) ∧ commandCode (slot 1 19 []) = 1
      ∧ paramLength (slot 1 19 []) < 20)
    ∧ (canBegin (ready (slot 9 113 [(0, 1, 1)]) base) (slot 9 113 [(0, 1, 1)])
      ∧ commandCode (slot 9 113 [(0, 1, 1)]) = 9 ∧ 112 < paramLength (slot 9 113 [(0, 1, 1)])
      ∧ param (slot 9 113 [(0, 1, 1)]) 0 1 ≠ 2 ∧ param (slot 9 113 [(0, 1, 1)]) 0 1 ≠ 3)
    ∧ 255 < 256 ∧ 65535 < 65536 :=
  ⟨⟨begins _ _ (by decide), by decide +kernel⟩, ⟨begins _ _ (by decide), by decide +kernel⟩,
   ⟨begins _ _ (by decide), by decide +kernel, by decide +kernel⟩,
   ⟨begins _ _ (by decide), by decide +kernel, by decide +kernel, by decide +kernel, by decide +kernel⟩, by decide,
   by decide⟩

/-- A WINDOW command for window 0, 64 × 64 with pitch 256 at the given base. -/
def windowSlot (address : Nat) : BitVec 1024 :=
  slot 1 20 [(0, 1, 0), (4, 4, address), (8, 4, 256), (12, 2, 64), (14, 2, 64)]

theorem witness_WindowIsDescribedOrRefused :
    let p := windowSlot 0x20000000
    let s := ready p base
    canBegin s p ∧ headed p 1 20 ∧ param p 0 1 = (0 : WindowNo).val ∧ s.buffers[(0 : WindowNo)].state = .disabled
    ∧ s.scan.pointer ≠ some 0 ∧ param p 4 4 % 32 = 0 ∧ 64 ≤ param p 12 2 ∧ param p 12 2 ≤ 7680 ∧ 64 ≤ param p 14 2
    ∧ param p 14 2 ≤ 4320 ∧ param p 8 4 % 32 = 0 ∧ 4 * param p 12 2 ≤ param p 8 4 ∧ param p 8 4 ≤ 32768
    ∧ param p 1 1 ≤ 1 ∧ param p 2 1 ≤ 1 ∧ param p 3 1 ≤ 1 ∧ param p 16 1 ≤ 63 ∧ param p 17 1 ≤ 63 ∧ param p 18 1 ≤ 63
    ∧ param p 19 1 ≤ 63 ∧ param p 4 4 + param p 8 4 * param p 14 2 ≤ 2 ^ 32 ∧ 8 * s.grid.columns ≤ param p 12 2
    ∧ 8 * s.grid.rows ≤ param p 14 2 ∧ s.controlBase + 4096 ≤ param p 4 4
    ∧ (∀ v : WindowNo, v ≠ 0 → s.windows[v].enable = true →
        param p 4 4 + param p 8 4 * param p 14 2 ≤ s.windows[v].base.toNat
        ∨ s.windows[v].base.toNat + s.windows[v].pitch * s.windows[v].height ≤ param p 4 4) := by
  refine ⟨begins _ _ (by decide), ?_⟩
  unfold headed
  decide +kernel

theorem witness_WindowIsDescribedOrRefused_checks :
    (canBegin (ready (slot 1 20 [(0, 1, 4)]) base) (slot 1 20 [(0, 1, 4)]) ∧ headed (slot 1 20 [(0, 1, 4)]) 1 20
      ∧ 3 < param (slot 1 20 [(0, 1, 4)]) 0 1)
    ∧ (canBegin (ready (windowSlot 0x20000010) base) (windowSlot 0x20000010) ∧ headed (windowSlot 0x20000010) 1 20
      ∧ param (windowSlot 0x20000010) 0 1 = (0 : WindowNo).val
      ∧ ¬((ready (windowSlot 0x20000010) base).buffers[(0 : WindowNo)].state = .blind
          ∨ (ready (windowSlot 0x20000010) base).buffers[(0 : WindowNo)].state.bank ≠ none)
      ∧ (ready (windowSlot 0x20000010) base).scan.pointer ≠ some 0 ∧ ¬param (windowSlot 0x20000010) 4 4 % 32 = 0)
    ∧ (let s := { base with windows := base.windows.set 3 window64 }
       canBegin (ready (windowSlot 0x20003FE0) s) (windowSlot 0x20003FE0) ∧ (3 : WindowNo) ≠ 0
       ∧ s.windows[(3 : WindowNo)].enable = true
       ∧ max 0x20003FE0 s.windows[(3 : WindowNo)].base.toNat
           < min (0x20003FE0 + 256 * 64)
               (s.windows[(3 : WindowNo)].base.toNat + s.windows[(3 : WindowNo)].pitch * s.windows[(3 : WindowNo)].height)) := by
  refine ⟨⟨begins _ _ (by decide), ?_⟩, ⟨begins _ _ (by decide), ?_⟩, ⟨begins _ _ (by decide), ?_⟩⟩
  · unfold headed; decide +kernel
  · unfold headed; decide +kernel
  · decide +kernel

theorem witness_WindowIsTurnedOff :
    (∀ n ∈ [0, 4],
      canBegin (ready (slot 2 4 [(0, 1, n)]) queuedState) (slot 2 4 [(0, 1, n)]) ∧ headed (slot 2 4 [(0, 1, n)]) 2 4
      ∧ param (slot 2 4 [(0, 1, n)]) 0 1 = n)
    ∧ queuedState.buffers[(0 : WindowNo)].state ≠ .disabled ∧ base.buffers[(0 : WindowNo)].state = .disabled := by
  refine ⟨fun n hn => ⟨begins _ _ (by decide), ?_⟩, by decide, by decide⟩
  unfold headed
  revert n
  decide +kernel

theorem witness_GridIsReplacedOrRefused :
    (let p := slot 3 8 [(0, 2, 96), (2, 2, 54), (4, 2, 1023)]
     canBegin (ready p base) p ∧ headed p 3 8 ∧ (∀ w : WindowNo, (ready p base).buffers[w].state = .disabled)
     ∧ (ready p base).protection.backlight = .off ∧ 1 ≤ param p 0 2
     ∧ param p 0 2 ≤ 96 ∧ 1 ≤ param p 2 2 ∧ param p 2 2 ≤ 54 ∧ param p 4 2 ≤ 1023)
    ∧ (let p := slot 3 8 [(0, 2, 96), (2, 2, 54), (4, 2, 1024)]
       canBegin (ready p base) p ∧ headed p 3 8 ∧ (∀ w : WindowNo, (ready p base).buffers[w].state = .disabled)
       ∧ param p 0 2 * param p 2 2 ≤ 5184 ∧ ¬param p 4 2 ≤ 1023) := by
  refine ⟨⟨begins _ _ (by decide), ?_⟩, ⟨begins _ _ (by decide), ?_⟩⟩ <;> unfold headed <;> decide +kernel

theorem witness_SetIsSelected :
    ∀ n ∈ [0, 1, 2],
      canBegin (ready (slot 4 4 [(0, 1, n)]) base) (slot 4 4 [(0, 1, n)]) ∧ headed (slot 4 4 [(0, 1, n)]) 4 4
      ∧ param (slot 4 4 [(0, 1, n)]) 0 1 = n := by
  refine fun n hn => ⟨begins _ _ (by decide), ?_⟩
  unfold headed
  revert n
  decide +kernel

/-- A state with one driver on DL0 under a backlight state and target. -/
def power (b : Backlight) (target : Bool) : State :=
  let s := oneZone base
  { s with protection := { s.protection with backlight := b, target := target } }

theorem power_channels (snap : BitVec 1024) (z : Nat) (c : ChannelId)
    (hz : z < (ready snap (power .off false)).grid.zones) (h : (ready snap (power .off false)).zoneChannel z = some c) :
    c.position.val < (ready snap (power .off false)).driverCount c.line := by
  have : z = 0 := Nat.lt_one_iff.1 hz
  subst this
  have hc : (ready snap (power .off false)).zoneChannel 0 = some { line := 0, position := 0, channel := 0 } := by
    show (power .off false).zoneChannel 0 = _
    decide +kernel
  rw [hc] at h
  cases h
  show 0 < (power .off false).driverCount 0
  decide +kernel

theorem witness_BacklightOnIsAnswered :
    let p := slot 5 4 [(0, 1, 1)]
    let s := ready p (power .off false)
    canBegin s p ∧ headed p 5 4 ∧ param p 0 1 = 1 ∧ s.protection.backlight = .off ∧ s.protection.thermal ≠ .shutdown
    ∧ s.tables.zoneMapState = .valid ∧ s.tables.lineSetupState = .valid ∧ s.tables.limitsState = .valid
    ∧ (∀ z c, z < s.grid.zones → s.zoneChannel z = some c → c.position.val < s.driverCount c.line)
    ∧ ((List.finRange 16).filter fun m => decide (0 < s.driverCount m ∧ s.lines[m].state ≠ .locked)) = 0 :: [] := by
  refine ⟨begins _ _ (by decide), ?_, by decide +kernel, by decide, by decide, by decide, by decide, by decide,
    fun z c hz h => power_channels _ z c hz h, by decide +kernel⟩
  unfold headed; decide +kernel

theorem witness_BacklightOnIsAnswered_unused :
    let p := slot 5 4 [(0, 1, 1)]
    let s := { power .off false with
      tables := { (power .off false).tables with zoneMap := ZoneTable.empty, lineSetup := base.tables.lineSetup } }
    canBegin (ready p s) p ∧ s.tables.zoneMapState = .valid ∧ s.tables.lineSetupState = .valid ∧ s.tables.limitsState = .valid
    ∧ (∀ z c, z < s.grid.zones → s.zoneChannel z = some c → c.position.val < s.driverCount c.line)
    ∧ ((List.finRange 16).filter fun m => decide (0 < s.driverCount m ∧ s.lines[m].state ≠ .locked)) = [] := by
  refine ⟨begins _ _ (by decide), by decide, by decide, by decide, fun z c hz h => ?_, by decide +kernel⟩
  rw [show z = 0 from Nat.lt_one_iff.1 hz] at h
  cases h

theorem witness_BacklightOnIsAnswered_states :
    (∀ n ∈ [1, 2],
      headed (slot 5 4 [(0, 1, n)]) 5 4 ∧ param (slot 5 4 [(0, 1, n)]) 0 1 = n)
    ∧ (∀ b ∈ [Backlight.off, .poweringUp, .on, .poweringDown, .thermalOff, .latchedOff], ∀ t : Bool, ∀ n,
        canBegin (ready (slot 5 4 [(0, 1, n)]) (power b t)) (slot 5 4 [(0, 1, n)])
        ∧ (power b t).protection.backlight = b ∧ (power b t).protection.target = t)
    ∧ base.protection.thermal ≠ .shutdown ∧ ¬base.tables.zoneMapState = .valid := by
  refine ⟨?_, fun b hb t n => ⟨begins _ _ ⟨rfl, rfl, rfl, rfl⟩, rfl, rfl⟩, by decide, by decide⟩
  unfold headed
  decide +kernel

theorem witness_BacklightOffIsAnswered :
    let p := slot 5 4 [(0, 1, 0)]
    canBegin (ready p lit) p ∧ headed p 5 4 ∧ param p 0 1 = 0 ∧ (ready p lit).protection.backlight = .on
    ∧ (ready p lit).ceiling ≠ 0 ∧ (∃ l : LineNo, (ready p lit).lines[l].state = .running)
    ∧ ∀ b ∈ [Backlight.off, .poweringDown, .latchedOff, .thermalOff],
        canBegin (ready p (power b true)) p ∧ (ready p (power b true)).protection.backlight = b := by
  refine ⟨begins _ _ (by decide), ?_, by decide +kernel, by decide, by decide, ⟨0, by decide⟩,
    fun b _ => ⟨begins _ _ ⟨rfl, rfl, rfl, rfl⟩, rfl⟩⟩
  unfold headed; decide +kernel

theorem witness_BacklightOffIsAnswered_drained :
    let p := slot 5 4 [(0, 1, 0)]
    let dark := { lit with lines := base.lines }
    let cold :=
      { lit with
        protection := { lit.protection with thermal := .hot }
        tables := { lit.tables with limits := 0 } }
    canBegin (ready p dark) p ∧ (ready p dark).protection.backlight = .on ∧ (∀ l : LineNo, (ready p dark).lines[l].state ≠ .running)
    ∧ canBegin (ready p cold) p ∧ (ready p cold).protection.backlight = .on ∧ (ready p cold).ceiling = 0
    ∧ (ready p cold).lines[(0 : LineNo)].state = .running :=
  ⟨begins _ _ (by decide), by decide, by decide +kernel, begins _ _ (by decide), by decide, by decide +kernel, by decide +kernel⟩

theorem witness_LineFaultIsCleared :
    (∀ n ∈ [0, 4], canBegin (ready (slot 9 4 [(0, 1, n)]) base) (slot 9 4 [(0, 1, n)]) ∧ headed (slot 9 4 [(0, 1, n)]) 9 4
      ∧ param (slot 9 4 [(0, 1, n)]) 0 1 = n)
    ∧ ∀ l ∈ [15, 16],
        canBegin (ready (slot 9 4 [(0, 1, 1), (1, 1, l)]) base) (slot 9 4 [(0, 1, 1), (1, 1, l)])
        ∧ headed (slot 9 4 [(0, 1, 1), (1, 1, l)]) 9 4 ∧ param (slot 9 4 [(0, 1, 1), (1, 1, l)]) 0 1 = 1
        ∧ param (slot 9 4 [(0, 1, 1), (1, 1, l)]) 1 1 = l := by
  refine ⟨fun n hn => ⟨begins _ _ (by decide), ?_⟩, fun l hl => ⟨begins _ _ (by decide), ?_⟩⟩
  · unfold headed; revert n; decide +kernel
  · unfold headed; revert l; decide +kernel

theorem witness_ZoneFaultsAreCleared :
    canBegin (ready (slot 9 4 [(0, 1, 2)]) base) (slot 9 4 [(0, 1, 2)]) ∧ headed (slot 9 4 [(0, 1, 2)]) 9 4
    ∧ param (slot 9 4 [(0, 1, 2)]) 0 1 = 2 := by
  refine ⟨begins _ _ (by decide), ?_⟩
  unfold headed; decide +kernel

theorem witness_ProtectionIsCleared :
    let p := slot 9 4 [(0, 1, 3)]
    let s := { power .latchedOff false with
      protection :=
        { (power .latchedOff false).protection with uvLatch := true, trip := some { mode := .timed, elapsed := 0 } } }
    canBegin (ready p s) p ∧ headed p 9 4 ∧ param p 0 1 = 3 ∧ (ready p s).protection.backlight = .latchedOff
    ∧ (ready p s).protection.target = false ∧ (ready p s).protection.trip = some { mode := .timed, elapsed := 0 }
    ∧ base.protection.backlight ≠ .latchedOff := by
  refine ⟨begins _ _ (by decide), ?_, by decide +kernel, rfl, rfl, rfl, by decide⟩
  unfold headed; decide +kernel

theorem witness_ProtectionIsCleared_target :
    let p := slot 9 4 [(0, 1, 3)]
    let s := ready p (power .latchedOff true)
    let hot := ready p { power .latchedOff true with protection := { (power .latchedOff true).protection with thermal := .shutdown } }
    let bare := ready p { power .latchedOff true with tables := base.tables }
    (canBegin s p ∧ s.protection.backlight = .latchedOff ∧ s.protection.target = true ∧ s.protection.thermal ≠ .shutdown
      ∧ s.tables.zoneMapState = .valid ∧ s.tables.lineSetupState = .valid ∧ s.tables.limitsState = .valid)
    ∧ (canBegin hot p ∧ hot.protection.backlight = .latchedOff ∧ hot.protection.target = true
      ∧ hot.protection.thermal = .shutdown)
    ∧ (canBegin bare p ∧ bare.protection.backlight = .latchedOff ∧ bare.protection.target = true
      ∧ bare.protection.thermal ≠ .shutdown ∧ ¬bare.tables.zoneMapState = .valid) :=
  ⟨⟨begins _ _ (by decide), rfl, rfl, by decide, rfl, rfl, rfl⟩, ⟨begins _ _ (by decide), rfl, rfl, rfl⟩,
   ⟨begins _ _ (by decide), rfl, rfl, by decide, by decide⟩⟩

/-! ### Tables and reports -/

/-- A LOAD_TABLE command. -/
def loadSlot (code offset count source : Nat) : BitVec 1024 :=
  slot 6 12 [(0, 1, code), (4, 2, offset), (6, 2, count), (8, 4, source)]

theorem witness_LoadIsAcceptedOrRefused :
    (let p := loadSlot 3 15 2 0xFFFFFFE0
     let s := ready p base
     canBegin s p ∧ headed p 6 12 ∧ tableOfCode (param p 0 1) = some .lineSetup ∧ s.protection.backlight = .off
     ∧ 1 ≤ param p 6 2 ∧ param p 4 2 < s.tableEnd .lineSetup ∧ s.tableEnd .lineSetup < param p 4 2 + param p 6 2
     ∧ param p 8 4 % 32 = 0 ∧ param p 8 4 + (s.tableEnd .lineSetup - param p 4 2) * entrySize .lineSetup ≤ 2 ^ 32)
    ∧ (canBegin (ready (loadSlot 7 0 1 0) base) (loadSlot 7 0 1 0) ∧ headed (loadSlot 7 0 1 0) 6 12
      ∧ tableOfCode (param (loadSlot 7 0 1 0) 0 1) = none)
    ∧ (canBegin (ready (loadSlot 3 16 1 0) base) (loadSlot 3 16 1 0) ∧ headed (loadSlot 3 16 1 0) 6 12
      ∧ tableOfCode (param (loadSlot 3 16 1 0) 0 1) = some .lineSetup
      ∧ (ready (loadSlot 3 16 1 0) base).protection.backlight = .off ∧ 1 ≤ param (loadSlot 3 16 1 0) 6 2
      ∧ ¬param (loadSlot 3 16 1 0) 4 2 < (ready (loadSlot 3 16 1 0) base).tableEnd .lineSetup) := by
  refine ⟨⟨begins _ _ (by decide), ?_⟩, ⟨begins _ _ (by decide), ?_⟩, ⟨begins _ _ (by decide), ?_⟩⟩ <;>
    unfold headed <;> decide +kernel

theorem witness_LoadBeginsItsFetch :
    (let s := loading .calibration 1 .waiting base
     live s ∧ (∃ c l, s.ring.executing = some c ∧ c.load = some l ∧ l.phase = .waiting ∧ 1 ≤ l.count)
     ∧ s.link.downstream = .up ∧ s.engine.analysis = none)
    ∧ (let s := loading .calibration 1 .waiting (analysing ScanTracker.reset)
       live s ∧ (∃ c l, s.ring.executing = some c ∧ c.load = some l ∧ l.phase = .waiting ∧ l.table ≠ .lineSetup)
       ∧ s.engine.analysis ≠ none) :=
  ⟨⟨rfl, ⟨_, _, rfl, rfl, rfl, Nat.le_refl 1⟩, rfl, rfl⟩, ⟨rfl, ⟨_, _, rfl, rfl, rfl, by decide⟩, nofun⟩⟩

theorem witness_LoadBeginsItsFetch_limits :
    let s := oneZone (withLine (lineIn .running))
    let t := loading .limits 1 .waiting { s with protection := { s.protection with thermal := .hot } }
    live t ∧ (∃ c l, t.ring.executing = some c ∧ c.load = some l ∧ l.phase = .waiting ∧ l.table = .limits ∧ 1 ≤ l.count)
    ∧ t.link.downstream = .up ∧ t.engine.analysis = none ∧ t.lines[(0 : LineNo)].state = .running
    ∧ (after .tableLoadBegin t).ceiling ≠ t.ceiling :=
  ⟨rfl, ⟨_, _, rfl, rfl, rfl, rfl, Nat.le_refl 1⟩, rfl, rfl, by decide, by decide +kernel⟩

/-- A fetch that waits for beat `b`, with its READ tracked. -/
def fetching (id : TableId) (count b : Nat) : State :=
  loading id count (.fetching b 0xFFFF#16 0) (tracking (.injected (.fetch id)) .up)

theorem witness_FetchFillsTheTable :
    (let s := fetching .calibration 17 0
     live s ∧ s.link.downstream = .up
     ∧ (∃ e rest c l, s.link.tracking = e :: rest ∧ s.ring.executing = some c ∧ c.load = some l
        ∧ e.origin = .injected (.fetch l.table) ∧ l.phase = .fetching 0 0xFFFF#16 0
        ∧ 32 * (0 + 1) < l.count * entrySize l.table ∧ l.table = .calibration))
    ∧ (let s := fetching .zoneMap 8 0
       live s ∧ s.link.downstream = .up
       ∧ (∃ e rest c l, s.link.tracking = e :: rest ∧ s.ring.executing = some c ∧ c.load = some l
          ∧ e.origin = .injected (.fetch l.table) ∧ l.phase = .fetching 0 0xFFFF#16 0
          ∧ l.count * entrySize l.table ≤ 32 * (0 + 1) ∧ l.table = .zoneMap)) :=
  ⟨⟨rfl, rfl, _, _, _, _, rfl, rfl, rfl, rfl, rfl, by decide, rfl⟩,
   ⟨rfl, rfl, _, _, _, _, rfl, rfl, rfl, rfl, rfl, by decide, rfl⟩⟩

theorem witness_FetchFillsTheTable_images :
    (∀ id ∈ [TableId.setA, .setB], ∀ b ∈ [0, 2], 32 * (b + 1) < 1 * entrySize id)
    ∧ (∀ id ∈ [TableId.setA, .setB], 1 * entrySize id ≤ 32 * (3 + 1))
    ∧ 32 * (0 + 1) < 1 * entrySize .limits ∧ 1 * entrySize .limits ≤ 32 * (1 + 1)
    ∧ (let s := fetching .limits 1 1
       live s ∧ s.link.downstream = .up
       ∧ ∃ e rest c l, s.link.tracking = e :: rest ∧ s.ring.executing = some c ∧ c.load = some l
          ∧ e.origin = .injected (.fetch l.table) ∧ l.phase = .fetching 1 0xFFFF#16 0 ∧ l.table = .limits) :=
  ⟨by decide, by decide, by decide, by decide, rfl, rfl, _, _, _, _, rfl, rfl, rfl, rfl, rfl, rfl⟩

theorem witness_StatusIsReported :
    ∀ n ∈ [0, 1, 2],
      canBegin (ready (slot 7 4 [(0, 1, n)]) base) (slot 7 4 [(0, 1, n)]) ∧ headed (slot 7 4 [(0, 1, n)]) 7 4
      ∧ param (slot 7 4 [(0, 1, n)]) 0 1 = n := by
  refine fun n hn => ⟨begins _ _ (by decide), ?_⟩
  unfold headed; revert n; decide +kernel

theorem witness_EventsAreReported :
    ∀ n ∈ [0, 1, 32, 33],
      canBegin (ready (slot 8 4 [(0, 2, n)]) base) (slot 8 4 [(0, 2, n)]) ∧ headed (slot 8 4 [(0, 2, n)]) 8 4
      ∧ param (slot 8 4 [(0, 2, n)]) 0 2 = n := by
  refine fun n hn => ⟨begins _ _ (by decide), ?_⟩
  unfold headed; revert n; decide +kernel

theorem witness_EventsAreReported_queues :
    (ready (slot 8 4 [(0, 2, 33)]) base).events = []
    ∧ (let e : Event := { kind := .supplyLow, time := 0, subject := .none, detail := 0 }
       let s := ready (slot 8 4 [(0, 2, 33)]) { base with events := [e] }
       canBegin s (slot 8 4 [(0, 2, 33)]) ∧ 0 < min (min 33 32) s.events.length ∧ s.events[0]? = some e) :=
  ⟨rfl, begins _ _ (by decide), by decide, rfl⟩

theorem witness_EventsAreReported_beats :
    let e : Event := { kind := .tableInvalid, time := 0xFFFFFFFF#32, subject := .table .limits, detail := 0xFFFF#16 }
    let writes := eventWrites 0x03FFF800 (List.replicate 17 e) 0
    (writes.map fun q => q.request.beatCount) = [8, 1]
    ∧ ∃ q b, writes[16 / 16]? = some q ∧ q.request.body = .write [b] ∧ b.enables = 0xFFFF#32 := by
  refine ⟨by decide +kernel, _, _, rfl, rfl, by decide +kernel⟩

/-! ### Invariants: states other than reset that meet them, with a step -/

theorem witness_QueueBoundsAreKept :
    let s := { queues [forwardRead] [fetchRead] 31 with pending := [.downstreamSend], link := { (queues [forwardRead] [fetchRead] 31).link with credits := 15 } }
    step s = .next (after .downstreamSend { s with pending := [] }) ∧ LinkInv s.link ∧ s.events.length ≤ 32 :=
  ⟨rfl, ⟨by decide, by decide, by decide, by decide, by decide, by decide, by decide⟩, by decide⟩

theorem witness_PowerInvariantIsKept :
    PowerInv { lit with pending := [.analogSample (temps 3600 0)] }
    ∧ step { lit with pending := [.analogSample (temps 3600 0)] } = .next (after (.analogSample (temps 3600 0)) lit) :=
  ⟨⟨lit_power.dark, lit_power.up, lit_power.on, lit_power.falling, lit_power.flying⟩, rfl⟩

theorem witness_LevelsStayInRange :
    LevelInv { queuedState with pending := [.analysisStart] }
    ∧ step { queuedState with pending := [.analysisStart] } = .next (after .analysisStart queuedState) :=
  ⟨levels_of _ rfl rfl rfl, rfl⟩

theorem witness_BuffersAndScanAgree :
    BufferInv { queuedState with pending := [.analysisStart] } ∧ ScanInv { queuedState with pending := [.analysisStart] }
    ∧ step { queuedState with pending := [.analysisStart] } = .next (after .analysisStart queuedState) :=
  ⟨⟨queuedState_inv.enabled, queuedState_inv.banks, queuedState_inv.slots, queuedState_inv.once, queuedState_inv.queued,
    queuedState_inv.analysing, queuedState_inv.own⟩,
   ⟨nofun, fun _ => ⟨rfl, rfl, rfl, rfl⟩, by decide, fun _ => rfl, fun h => absurd rfl h⟩, rfl⟩

theorem witness_RingAndTablesAgree :
    let s := { loading .setA 1 .waiting base with pending := [.tableLoadBegin] }
    RingInv s ∧ step s = .next (after .tableLoadBegin { s with pending := [] }) := by
  refine ⟨⟨nofun, nofun, fun before q rest h => ?_, nofun, fun id => ⟨fun h => ?_, fun h => ?_⟩⟩, rfl⟩
  · cases before <;> cases h
  · cases id <;> cases h
  · obtain ⟨l, b, crc, kept, hl, _, hp⟩ := h
    cases hl
    cases hp

end Sys2Proof.Tests
end

section
/-! SUPPORT. The proofs about WINDOW and WINDOW_OFF (R21 to R23): a table of checks read in order, the ranges that check 12
compares, and what each of the two commands does once it has begun. -/

namespace Sys2Proof.Laws

open Sys2Proof Sys2Proof.Machine Sys2Proof.Safety

/-! ### Checks made one after another -/

/-- `out` is the answer of the first check of the table that fails, and `rest` when all of them pass. -/
def FirstFailing (rest : Option Answer) : Option Answer → List (Prop × Answer) → Prop
  | out, [] => out = rest
  | out, (p, a) :: checks => (p → FirstFailing rest out checks) ∧ (¬p → out = some a)

/-- The first check of a table as a branch: what follows it may rely on its having passed. -/
theorem FirstFailing.branch {rest out : Option Answer} {checks : List (Prop × Answer)} {p c : Prop} [Decidable c]
    {a : Answer} (hc : c ↔ ¬p) (h : p → FirstFailing rest out checks) :
    FirstFailing rest (if c then some a else out) ((p, a) :: checks) := by
  constructor
  · intro hp
    rw [if_neg (hc.not.2 (not_not_intro hp))]
    exact h hp
  · intro hp
    exact if_pos (hc.2 hp)

theorem FirstFailing.eq_some {rest out : Option Answer} {before after : List (Prop × Answer)} {p : Prop} {a : Answer}
    (h : FirstFailing rest out (before ++ (p, a) :: after)) (hb : ∀ q ∈ before, q.1) (hp : ¬p) : out = some a := by
  induction before with
  | nil => exact h.2 hp
  | cons q before ih =>
    obtain ⟨hq, hb⟩ := List.forall_mem_cons.1 hb
    exact ih (h.1 hq) hb

theorem FirstFailing.eq_rest {rest out : Option Answer} {checks : List (Prop × Answer)}
    (h : FirstFailing rest out checks) (hall : ∀ q ∈ checks, q.1) : out = rest := by
  induction checks with
  | nil => exact h
  | cons q checks ih =>
    obtain ⟨hq, hall⟩ := List.forall_mem_cons.1 hall
    exact ih (h.1 hq) hall

/-! ### The described window and its range (R20, R21) -/

theorem param_lt (snap : BitVec 1024) (offset size : Nat) : param snap offset size < 2 ^ (8 * size) := BitVec.isLt _

@[simp] theorem windowOf_base_toNat (snap : BitVec 1024) : (windowOf snap).base.toNat = param snap 4 4 :=
  (BitVec.toNat_ofNat _ _).trans (Nat.mod_eq_of_lt (param_lt snap 4 4))

@[simp] theorem windowOf_rangeEnd (snap : BitVec 1024) :
    (windowOf snap).rangeEnd = param snap 4 4 + param snap 8 4 * param snap 14 2 := by
  unfold Window.rangeEnd
  rw [windowOf_base_toNat]
  rfl

/-- Ranges that hold an address each overlap exactly when neither ends before the other starts. -/
theorem rangesOverlap_iff {a aEnd b bEnd : Nat} (ha : a < aEnd) (hb : b < bEnd) :
    rangesOverlap a aEnd b bEnd = true ↔ ¬(aEnd ≤ b ∨ bEnd ≤ a) := by
  simp only [rangesOverlap, decide_eq_true_eq]
  omega

theorem rangesOverlap_eq_false {a aEnd b bEnd : Nat} (h : aEnd ≤ b ∨ bEnd ≤ a) : rangesOverlap a aEnd b bEnd = false := by
  simp only [rangesOverlap, decide_eq_false_iff_not]
  omega

/-- Check 12 of R21 finds the lowest-numbered of the other enabled windows that overlap. -/
theorem overlapping_eq_some (s : State) (w v : WindowNo) (x : Window) (hv : v ≠ w) (he : s.windows[v].enable = true)
    (ho : rangesOverlap x.base.toNat x.rangeEnd s.windows[v].base.toNat s.windows[v].rangeEnd = true)
    (hmin : ∀ u : WindowNo, u ≠ w → s.windows[u].enable = true →
      rangesOverlap x.base.toNat x.rangeEnd s.windows[u].base.toNat s.windows[u].rangeEnd = true → v ≤ u) :
    s.overlapping w x = some v := by
  unfold State.overlapping
  rw [← Fin.find?_eq_find?_finRange, Fin.find?_eq_some_iff]
  simp only [Bool.and_eq_true, bne_iff_ne]
  refine ⟨⟨⟨hv, he⟩, ho⟩, fun u hu => ?_⟩
  by_contra hne
  simp only [Bool.not_eq_false, Bool.and_eq_true, bne_iff_ne] at hne
  obtain ⟨⟨hw, he⟩, ho⟩ := hne
  exact absurd hu (Fin.not_lt.2 (hmin u hw he ho))

theorem overlapping_eq_none (s : State) (w : WindowNo) (x : Window)
    (h : ∀ v : WindowNo, v ≠ w → s.windows[v].enable = true →
      rangesOverlap x.base.toNat x.rangeEnd s.windows[v].base.toNat s.windows[v].rangeEnd = false) :
    s.overlapping w x = none := by
  refine List.find?_eq_none.2 fun v _ hv => ?_
  simp only [Bool.and_eq_true, bne_iff_ne] at hv
  obtain ⟨⟨hw, he⟩, ho⟩ := hv
  rw [h v hw he] at ho
  cases ho

/-! ### WINDOW (R21, R22) -/

theorem busy_iff (b : BufferState) : b.busy = true ↔ b = .blind ∨ b.bank ≠ none := by
  cases b <;> simp [BufferState.busy, BufferState.bank]

/-- Checks 2 to 11 of R21 for window `w`, each with its answer, on the fields of the command. -/
def windowChecks (s : State) (w : WindowNo) (snap : BitVec 1024) : List (Prop × Answer) :=
  let base := param snap 4 4
  let pitch := param snap 8 4
  let width := param snap 12 2
  let height := param snap 14 2
  [(¬(s.buffers[w].state = .blind ∨ s.buffers[w].state.bank ≠ none), (.busy, 0)),
   (s.scan.pointer ≠ some w, (.busy, 1)),
   (base % 32 = 0, (.badParam, 2)),
   (64 ≤ width ∧ width ≤ 7680, (.badParam, 3)),
   (64 ≤ height ∧ height ≤ 4320, (.badParam, 4)),
   (pitch % 32 = 0 ∧ 4 * width ≤ pitch ∧ pitch ≤ 32768, (.badParam, 5)),
   (param snap 1 1 ≤ 1 ∧ param snap 2 1 ≤ 1 ∧ param snap 3 1 ≤ 1 ∧ param snap 16 1 ≤ 63 ∧ param snap 17 1 ≤ 63
      ∧ param snap 18 1 ≤ 63 ∧ param snap 19 1 ≤ 63, (.badParam, 6)),
   (base + pitch * height ≤ 2 ^ 32, (.badParam, 7)),
   (8 * s.grid.columns ≤ width ∧ 8 * s.grid.rows ≤ height, (.badParam, 8)),
   (base + pitch * height ≤ s.controlBase ∨ s.controlBase + 4096 ≤ base, (.badParam, 9))]

/-- The model makes the checks of the table, and then looks for an overlapping window. That the control region is compared
as a range with an address in it rests on the checks of width, height and pitch before it. -/
theorem windowCheck_firstFailing (s : State) (w : WindowNo) (snap : BitVec 1024) :
    FirstFailing ((s.overlapping w (windowOf snap)).map fun v => (.badParam, 16 + v.val)) (s.windowCheck w snap)
      (windowChecks s w snap) := by
  unfold State.windowCheck windowChecks
  refine .branch ((busy_iff _).trans not_not.symm) fun _ => ?_
  refine .branch not_not.symm fun _ => .branch Iff.rfl fun _ => ?_
  refine .branch Iff.rfl fun ⟨hwidth, _⟩ => .branch Iff.rfl fun ⟨hheight, _⟩ => ?_
  refine .branch Iff.rfl fun ⟨_, hpitch, _⟩ => .branch Iff.rfl fun _ => ?_
  refine .branch (by rw [windowOf_rangeEnd]; exact Nat.not_le.symm) fun _ => .branch Iff.rfl fun _ => ?_
  refine .branch ?_ fun _ => ?_
  · have hsize : 0 < param snap 8 4 * param snap 14 2 := Nat.mul_pos (by omega) (by omega)
    rw [windowOf_base_toNat, windowOf_rangeEnd]
    exact rangesOverlap_iff (Nat.lt_add_of_pos_right hsize) (by omega)
  · show _ = Option.map _ _
    cases s.overlapping w (windowOf snap) <;> rfl

theorem windowNo_val (w : WindowNo) : windowNo w.val = some w := dif_pos w.isLt

theorem windowNo_eq_none {n : Nat} (h : 3 < n) : windowNo n = none := dif_neg (by omega)

/-- WINDOW with an accepted header does what R21 and R22 say once it has begun. -/
theorem exec_window (s : State) (snap : BitVec 1024) (h : canBegin s snap) (hh : headed snap 1 20) :
    exec .window s = .next (State.runWindow snap (s.beginCommand snap)) :=
  congrArg Host.Outcome.next
    (runCommand_body .window _ s snap h (by simp [Row.accepts, hh.1]) (headerCheck_headed snap 1 20 hh rfl))

/-- A WINDOW that one of checks 2 to 12 of R21 refuses has no effect but its answer. -/
theorem exec_window_refused (s : State) (snap : BitVec 1024) (w : WindowNo) (a : Answer) (h : canBegin s snap)
    (hh : headed snap 1 20) (hw : param snap 0 1 = w.val) (hc : s.windowCheck w snap = some a) :
    exec .window s = .next (answered s snap [] a) := by
  have hb : (s.beginCommand snap).windowCheck w snap = some a := hc
  rw [exec_window s snap h hh, ← answer_beginCommand]
  simp only [State.runWindow, hw, windowNo_val, hb]

/-- A WINDOW that checks 2 to 12 of R21 pass describes the window and is answered DONE (R22). -/
theorem exec_window_accepted (s : State) (snap : BitVec 1024) (w : WindowNo) (h : canBegin s snap)
    (hh : headed snap 1 20) (hw : param snap 0 1 = w.val) (hc : s.windowCheck w snap = none) :
    exec .window s = .next (answered (s.describeWindow w (windowOf snap)) snap [] (.done, 0)) := by
  have hb : (s.beginCommand snap).windowCheck w snap = none := hc
  rw [exec_window s snap h hh, ← answer_beginCommand]
  simp only [State.runWindow, hw, windowNo_val, hb]
  rfl

/-- Check 1 of R21. -/
theorem exec_window_unnumbered (s : State) (snap : BitVec 1024) (h : canBegin s snap) (hh : headed snap 1 20)
    (hw : 3 < param snap 0 1) : exec .window s = .next (answered s snap [] (.badParam, 1)) := by
  rw [exec_window s snap h hh, ← answer_beginCommand]
  simp only [State.runWindow, windowNo_eq_none hw]

/-- Settles O42: the model's checks are the table of R21 (`windowCheck_firstFailing`), whose first failing check or whose
end decides between the refusal and R22. -/
theorem windowIsDescribedOrRefused : Obligations.WindowIsDescribedOrRefused := by
  constructor
  · intro s snap w h hh hw hstate hscan base pitch width height hbase hwidth hwidth' hheight hheight' hpitch hpitch'
      hpitch'' hformat hcomp hclip hwmatch hwmask hsmatch hsmask hend hcols hrows hcontrol hothers
    have hbuffer : ¬(s.buffers[w].state = .blind ∨ s.buffers[w].state.bank ≠ none) := by
      revert hstate
      cases s.buffers[w].state <;> simp [BufferState.bank, BufferState.result]
    have hall : ∀ q ∈ windowChecks s w snap, q.1 := by
      simp only [windowChecks, List.forall_mem_cons]
      exact ⟨hbuffer, hscan, hbase, ⟨hwidth, hwidth'⟩, ⟨hheight, hheight'⟩, ⟨hpitch, hpitch', hpitch''⟩,
        ⟨hformat, hcomp, hclip, hwmatch, hwmask, hsmatch, hsmask⟩, hend, ⟨hcols, hrows⟩, hcontrol, List.forall_mem_nil _⟩
    have hnone : s.overlapping w (windowOf snap) = none := by
      refine overlapping_eq_none s w _ fun v hv he => rangesOverlap_eq_false ?_
      rw [windowOf_base_toNat, windowOf_rangeEnd]
      exact hothers v hv he
    refine exec_window_accepted s snap w h hh hw ?_
    rw [(windowCheck_firstFailing s w snap).eq_rest hall, hnone]
    rfl
  · intro s snap h hh
    refine ⟨exec_window_unnumbered s snap h hh, ?_⟩
    intro w hw base pitch width height checks
    refine ⟨fun before p a after hsplit hbefore hp => ?_, fun v hall hv he hmin ho => ?_⟩
    · refine exec_window_refused s snap w a h hh hw ?_
      have htable : FirstFailing _ (s.windowCheck w snap) checks := windowCheck_firstFailing s w snap
      rw [hsplit] at htable
      exact htable.eq_some hbefore hp
    · refine exec_window_refused s snap w _ h hh hw ?_
      have hsome : s.overlapping w (windowOf snap) = some v := by
        refine overlapping_eq_some s w v _ hv he ?_ fun u hu heu hou => hmin u hu heu ?_
        · rw [windowOf_base_toNat, windowOf_rangeEnd]
          exact decide_eq_true ho
        · rw [windowOf_base_toNat, windowOf_rangeEnd] at hou
          exact of_decide_eq_true hou
      rw [(windowCheck_firstFailing s w snap).eq_rest hall, hsome]
      rfl

/-! ### WINDOW_OFF (R23) -/

/-- WINDOW_OFF with an accepted header does what R23 says once it has begun. -/
theorem exec_windowOff (s : State) (snap : BitVec 1024) (h : canBegin s snap) (hh : headed snap 2 4) :
    exec .windowOff s = .next (State.runWindowOff snap (s.beginCommand snap)) :=
  congrArg Host.Outcome.next
    (runCommand_body .windowOff _ s snap h (by simp [Row.accepts, hh.1]) (headerCheck_headed snap 2 4 hh rfl))

theorem exec_windowOff_unnumbered (s : State) (snap : BitVec 1024) (h : canBegin s snap) (hh : headed snap 2 4)
    (hw : 3 < param snap 0 1) : exec .windowOff s = .next (answered s snap [] (.badParam, 1)) := by
  rw [exec_windowOff s snap h hh, ← answer_beginCommand]
  simp only [State.runWindowOff, windowNo_eq_none hw]

theorem exec_windowOff_disabled (s : State) (snap : BitVec 1024) (w : WindowNo) (h : canBegin s snap)
    (hh : headed snap 2 4) (hw : param snap 0 1 = w.val) (hd : s.buffers[w].state = .disabled) :
    exec .windowOff s = .next (answered s snap [] (.done, 0)) := by
  have hb : (s.beginCommand snap).buffers[w].state = .disabled := hd
  rw [exec_windowOff s snap h hh, ← answer_beginCommand]
  simp only [State.runWindowOff, hw, windowNo_val, if_pos hb]

/-- Turning a window off, with the discarding of what its buffer held kept apart. -/
theorem disableWindow_eq (w : WindowNo) (s : State) :
    s.disableWindow w
      = { s.releaseBuffer w with
          windows := s.windows.set w { s.windows[w] with enable := false }
          buffers := s.buffers.set w { state := .disabled, written := 0 }
          scan :=
            if s.scan.pointer = some w then
              { s.scan with pointer := none, result := none, progress := 0, passed := 0, committed := 0 }
            else s.scan } := by
  have hscan : (s.releaseBuffer w).scan = s.scan := outside_releaseBuffer w s .scan (by decide)
  have hwindows : (s.releaseBuffer w).windows = s.windows := outside_releaseBuffer w s .windows (by decide)
  have hbuffers : (s.releaseBuffer w).buffers = s.buffers := outside_releaseBuffer w s .buffers (by decide)
  unfold State.disableWindow
  dsimp only
  rw [hscan]
  split
  · simp only [State.setBuffer, State.endScan, hscan, hwindows, hbuffers]
  · simp only [State.setBuffer, hscan, hwindows, hbuffers]

/-- Beginning a command touches the ring alone, so it may be done after the window is turned off. -/
theorem disableWindow_beginCommand (w : WindowNo) (snap : BitVec 1024) (s : State) :
    (s.beginCommand snap).disableWindow w = (s.disableWindow w).beginCommand snap := by
  have hrelease : (s.beginCommand snap).releaseBuffer w = (s.releaseBuffer w).beginCommand snap := by
    have hb : (s.beginCommand snap).buffers[w].state = s.buffers[w].state := rfl
    unfold State.releaseBuffer
    rw [hb]
    cases s.buffers[w].state <;> rfl
  rw [disableWindow_eq, disableWindow_eq, hrelease]
  rfl

/-- WINDOW_OFF on a buffer that is not DISABLED turns the window off and is answered DONE (R23). -/
theorem exec_windowOff_accepted (s : State) (snap : BitVec 1024) (w : WindowNo) (h : canBegin s snap)
    (hh : headed snap 2 4) (hw : param snap 0 1 = w.val) (hd : s.buffers[w].state ≠ .disabled) :
    exec .windowOff s = .next (answered (s.disableWindow w) snap [] (.done, 0)) := by
  have hb : ¬(s.beginCommand snap).buffers[w].state = .disabled := hd
  rw [exec_windowOff s snap h hh, ← answer_beginCommand, ← disableWindow_beginCommand]
  simp only [State.runWindowOff, hw, windowNo_val, if_neg hb]

/-- Settles O43: the three answers of R23, the last of them by the state that the buffer is in. -/
theorem windowIsTurnedOff : Obligations.WindowIsTurnedOff := by
  intro s snap h hh
  refine ⟨exec_windowOff_unnumbered s snap h hh, fun w hw => ⟨exec_windowOff_disabled s snap w h hh hw, fun hd => ?_⟩⟩
  rw [exec_windowOff_accepted s snap w h hh hw hd, disableWindow_eq]
  -- what is left to compare is the queue entry, the analysis and the bank, which each state of the buffer fixes
  unfold State.releaseBuffer
  cases s.buffers[w].state <;> rfl

end Sys2Proof.Laws
end

section
/-! SUPPORT. The proof about the place of an address, the zone of a pixel and the luminance of a word (R3, R44, R45): the
classification of an address in its three cases, and the model's search for a column or row as the library's
`Nat.findGreatest`. -/

namespace Sys2Proof.Laws

open Sys2Proof Sys2Proof.Machine Sys2Proof.Safety

/-! ### Where a beat lies (R3) -/

/-- Address `a` lies in the control region. -/
def InControlRegion (s : State) (a : Nat) : Prop := s.controlBase ≤ a ∧ a < s.controlBase + 4096

/-- The place of address `a` when window `w` is the one it lies in. -/
def placeInWindow (s : State) (w : WindowNo) (a : Nat) : Place :=
  let off := a - s.windows[w].base.toNat
  let x0 := off % s.windows[w].pitch / 4
  .window w (off / s.windows[w].pitch) x0 (activePixels s.windows[w].width x0)

theorem covers_iff (x : Window) (a : Nat) :
    x.covers a = true ↔ x.enable = true ∧ x.base.toNat ≤ a ∧ a < x.base.toNat + x.pitch * x.height := by
  simp only [Window.covers, Bool.and_eq_true, decide_eq_true_eq, and_assoc]
  rfl

/-- The classification of an address: the control region, else a window that covers it, else none covers it. -/
theorem locate_cases (s : State) (a : Nat) :
    (InControlRegion s a ∧ s.locate a = .control (a - s.controlBase))
    ∨ (¬InControlRegion s a ∧ ∃ w : WindowNo, s.windows[w].covers a = true ∧ s.locate a = placeInWindow s w a)
    ∨ (¬InControlRegion s a ∧ (∀ w : WindowNo, ¬s.windows[w].covers a = true) ∧ s.locate a = .unclassified) := by
  have hregion : (s.controlBase ≤ a ∧ a - s.controlBase < 4096) ↔ InControlRegion s a := by
    unfold InControlRegion
    omega
  unfold State.locate
  by_cases hc : s.controlBase ≤ a ∧ a - s.controlBase < 4096
  · exact .inl ⟨hregion.1 hc, if_pos hc⟩
  · rw [if_neg hc]
    have hout : ¬InControlRegion s a := mt hregion.2 hc
    cases hf : (List.finRange 4).find? fun w => s.windows[w].covers a with
    | some w => exact .inr (.inl ⟨hout, w, List.find?_some (p := fun w : WindowNo => s.windows[w].covers a) hf, rfl⟩)
    | none => exact .inr (.inr ⟨hout, fun w => List.find?_eq_none.1 hf w (List.mem_finRange w), rfl⟩)

theorem locate_eq_control_iff (s : State) (a o : Nat) :
    s.locate a = .control o ↔ s.controlBase ≤ a ∧ a < s.controlBase + 4096 ∧ o = a - s.controlBase := by
  rw [← and_assoc]
  change _ ↔ InControlRegion s a ∧ _
  rcases locate_cases s a with ⟨hin, he⟩ | ⟨hout, w, _, he⟩ | ⟨hout, _, he⟩ <;> rw [he]
  · simp [hin, eq_comm]
  · simp [hout, placeInWindow]
  · simp [hout]

theorem locate_eq_unclassified_iff (s : State) (a : Nat) :
    s.locate a = .unclassified ↔ ¬InControlRegion s a ∧ ∀ w : WindowNo, ¬s.windows[w].covers a = true := by
  rcases locate_cases s a with ⟨hin, he⟩ | ⟨_, w, hw, he⟩ | ⟨hout, hnone, he⟩ <;> rw [he]
  · simp [hin]
  · simp only [placeInWindow, reduceCtorEq, false_iff]
    exact fun h => h.2 w hw
  · exact iff_of_true rfl ⟨hout, hnone⟩

theorem locate_eq_window (s : State) (a : Nat) (w : WindowNo) (y x0 n : Nat) (h : s.locate a = .window w y x0 n) :
    ¬InControlRegion s a ∧ s.windows[w].covers a = true ∧ placeInWindow s w a = .window w y x0 n := by
  rcases locate_cases s a with ⟨_, he⟩ | ⟨hout, v, hv, he⟩ | ⟨_, _, he⟩ <;> rw [he] at h
  · cases h
  · have hvw : v = w := (Place.window.inj h).1
    subst hvw
    exact ⟨hout, hv, h⟩
  · cases h

/-! ### The zone of a pixel (R44) -/

/-- The model's search over the indices below `n + 1` is the library's search for the greatest of them. -/
theorem lastAtMost_eq_findGreatest (n : Nat) (f : Nat → Nat) (x : Nat) :
    lastAtMost (n + 1) f x = Nat.findGreatest (fun i => f i ≤ x) n := by
  induction n with
  | zero => simp [lastAtMost]
  | succ n ih =>
    have hstep : lastAtMost (n + 1 + 1) f x = if f (n + 1) ≤ x then n + 1 else lastAtMost (n + 1) f x := by
      unfold lastAtMost
      rw [List.range_succ, List.foldl_append]
      rfl
    rw [hstep, ih, Nat.findGreatest_succ]

/-- The index found is in range and its value at most `x`, while every later value exceeds `x`. -/
theorem lastAtMost_spec {n : Nat} {f : Nat → Nat} {x : Nat} (hfirst : f 0 ≤ x) :
    lastAtMost (n + 1) f x ≤ n ∧ f (lastAtMost (n + 1) f x) ≤ x ∧ ∀ j, lastAtMost (n + 1) f x < j → j ≤ n → x < f j := by
  rw [lastAtMost_eq_findGreatest]
  exact ⟨Nat.findGreatest_le n, Nat.findGreatest_spec (P := fun i => f i ≤ x) (Nat.zero_le n) hfirst,
    fun j hj hjn => Nat.not_le.1 (Nat.findGreatest_is_greatest (P := fun i => f i ≤ x) hj hjn)⟩

/-- The extents of `n` columns or rows cover the `size` pixels: the index found is below `n` and its extent holds `x`. The
extent of the last index ends at `size`, which is why the search needs no other bound. -/
theorem lastAtMost_extent {n size x : Nat} (hn : 1 ≤ n) (hx : x < size) :
    lastAtMost n (extentStart n size) x < n
    ∧ extentStart n size (lastAtMost n (extentStart n size) x) ≤ x
    ∧ x < extentStart n size (lastAtMost n (extentStart n size) x + 1) := by
  obtain ⟨m, rfl⟩ : ∃ m, n = m + 1 := ⟨n - 1, by omega⟩
  have hfirst : extentStart (m + 1) size 0 ≤ x := by simp [extentStart]
  have hlast : extentStart (m + 1) size (m + 1) = size := Nat.mul_div_cancel_left size (Nat.succ_pos m)
  obtain ⟨hle, hstart, hgreatest⟩ := lastAtMost_spec (n := m) hfirst
  refine ⟨Nat.lt_succ_of_le hle, hstart, ?_⟩
  rcases Nat.lt_or_eq_of_le hle with hlt | heq
  · exact hgreatest _ (Nat.lt_succ_self _) hlt
  · rw [heq, hlast]
    exact hx

/-! ### The luminance of a word (R45) -/

theorem luminance_rgb10_le (v : Word) : luminance .rgb10 v ≤ 1023 := by
  have field (start : Nat) : (v.extractLsb' start 10).toNat ≤ 1023 := Nat.le_of_lt_succ (BitVec.isLt _)
  exact Nat.max_le.2 ⟨field 20, Nat.max_le.2 ⟨field 10, field 0⟩⟩

theorem luminance_rgb8_le (v : Word) : luminance .rgb8 v ≤ 1023 := by
  have field (start : Nat) : (v.extractLsb' start 8).toNat ≤ 255 := Nat.le_of_lt_succ (BitVec.isLt _)
  have hm := Nat.max_le.2 ⟨field 16, Nat.max_le.2 ⟨field 8, field 0⟩⟩
  simp only [luminance, colours]
  omega

/-- Settles O13: the three cases of `locate_cases`, the extents of `lastAtMost_extent` for columns and for rows, and the
formulas of R45 with the widths of their fields. -/
theorem pixelsAreLocatedAndMeasured : Obligations.PixelsAreLocatedAndMeasured := by
  refine ⟨fun s a => ⟨locate_eq_control_iff s a, fun w y x0 n h => ?_, ?_⟩, fun g W H x y hc hr hx hy => ?_, fun v =>
    ⟨rfl, rfl, luminance_rgb10_le v, luminance_rgb8_le v⟩⟩
  · obtain ⟨hout, hw, hplace⟩ := locate_eq_window s a w y x0 n h
    obtain ⟨henable, hle, hlt⟩ := (covers_iff _ a).1 hw
    obtain ⟨-, rfl, rfl, rfl⟩ := Place.window.inj hplace
    exact ⟨hout, henable, hle, hlt, rfl, rfl, rfl⟩
  · rw [locate_eq_unclassified_iff]
    simp only [covers_iff, not_and, InControlRegion]
  · obtain ⟨hcol, hcol1, hcol2⟩ := lastAtMost_extent hc hx
    obtain ⟨hrow, hrow1, hrow2⟩ := lastAtMost_extent hr hy
    exact ⟨_, _, hcol, hrow, rfl, hcol1, hcol2, hrow1, hrow2⟩

end Sys2Proof.Laws
end

section
/-! SUPPORT. The proof about SET_GRID (R42, R43, R158): its checks as a table, and the replaced grid as one record update
that does not read the ring. -/

namespace Sys2Proof.Laws

open Sys2Proof Sys2Proof.Machine Sys2Proof.Safety

/-! ### The checks of SET_GRID (R42) -/

/-- The checks of R42 in their order, each with its answer, on the fields of the command. -/
def gridChecks (s : State) (snap : BitVec 1024) : List (Prop × Answer) :=
  [(∀ w : WindowNo, s.buffers[w].state = .disabled, (.state, 1)),
   (s.protection.backlight = .off, (.state, 2)),
   (1 ≤ param snap 0 2 ∧ param snap 0 2 ≤ 96, (.badParam, 1)),
   (1 ≤ param snap 2 2 ∧ param snap 2 2 ≤ 54, (.badParam, 2)),
   (param snap 0 2 * param snap 2 2 ≤ 5184, (.badParam, 3)),
   (param snap 4 2 ≤ 1023, (.badParam, 4))]

theorem allDisabled_iff (s : State) :
    ((List.finRange 4).all fun w => s.buffers[w].state == .disabled) = true
      ↔ ∀ w : WindowNo, s.buffers[w].state = .disabled := by
  simp only [List.all_eq_true, List.mem_finRange, forall_const, beq_iff_eq]

/-- The model makes the checks of the table and no other. -/
theorem gridCheck_firstFailing (s : State) (snap : BitVec 1024) :
    FirstFailing none (s.gridCheck snap) (gridChecks s snap) := by
  unfold State.gridCheck gridChecks
  refine .branch (by rw [← allDisabled_iff, Bool.not_eq_true]) fun _ => .branch Iff.rfl fun _ => ?_
  refine .branch Iff.rfl fun _ => .branch Iff.rfl fun _ => ?_
  exact .branch Nat.not_le.symm fun _ => .branch Nat.not_le.symm fun _ => rfl

/-! ### The replaced grid (R43, R158) -/

/-- The grid that the command names. -/
def gridOf (snap : BitVec 1024) : Grid :=
  { columns := param snap 0 2, rows := param snap 2 2, leadLines := param snap 4 2 }

/-- Emptying one bank after the other empties both. -/
theorem emptied_banks (v : Vector Bank 2) :
    (v.set 0 v[0].emptied).set 1 v[1].emptied = v.map Bank.emptied := by
  ext i hi
  have : i = 0 ∨ i = 1 := by omega
  rcases this with rfl | rfl <;> simp

/-- The replaced grid as one record update. -/
theorem replaceGrid_eq (g : Grid) (s : State) :
    s.replaceGrid g
      = { s with
          grid := g
          banks := s.banks.map Bank.emptied
          engine := { s.engine with analysis := none }
          history := History.reset
          drive := ZoneTable.empty
          scan := ScanTracker.reset
          faults := { openMarks := 0, shortMarks := 0 }
          lines := s.lines.map clearSuspects
          tables :=
            { s.tables with
              zoneMapState := .invalid, calibrationState := .invalid, zoneMap := ZoneTable.empty,
              calibration := ZoneTable.empty } } := by
  unfold State.replaceGrid
  rw [forLines_map, ← emptied_banks]
  rfl

/-- Beginning a command touches the ring alone, so it may be done after the grid is replaced. -/
theorem replaceGrid_beginCommand (g : Grid) (snap : BitVec 1024) (s : State) :
    (s.beginCommand snap).replaceGrid g = (s.replaceGrid g).beginCommand snap := by
  rw [replaceGrid_eq, replaceGrid_eq]
  rfl

/-! ### SET_GRID (R42, R43) -/

/-- SET_GRID with an accepted header does what R42 and R43 say once it has begun. -/
theorem exec_setGrid (s : State) (snap : BitVec 1024) (h : canBegin s snap) (hh : headed snap 3 8) :
    exec .setGrid s = .next (State.runSetGrid snap (s.beginCommand snap)) :=
  congrArg Host.Outcome.next
    (runCommand_body .setGrid _ s snap h (by simp [Row.accepts, hh.1]) (headerCheck_headed snap 3 8 hh rfl))

/-- A SET_GRID that a check of R42 refuses has no effect but its answer. -/
theorem exec_setGrid_refused (s : State) (snap : BitVec 1024) (a : Answer) (h : canBegin s snap) (hh : headed snap 3 8)
    (hc : s.gridCheck snap = some a) : exec .setGrid s = .next (answered s snap [] a) := by
  have hb : (s.beginCommand snap).gridCheck snap = some a := hc
  rw [exec_setGrid s snap h hh, ← answer_beginCommand]
  simp only [State.runSetGrid, hb]

/-- A SET_GRID that passes every check of R42 replaces the grid and is answered DONE (R43). -/
theorem exec_setGrid_accepted (s : State) (snap : BitVec 1024) (h : canBegin s snap) (hh : headed snap 3 8)
    (hc : s.gridCheck snap = none) :
    exec .setGrid s = .next (answered (s.replaceGrid (gridOf snap)) snap [] (.done, 0)) := by
  have hb : (s.beginCommand snap).gridCheck snap = none := hc
  rw [exec_setGrid s snap h hh, ← answer_beginCommand, ← replaceGrid_beginCommand]
  simp only [State.runSetGrid, hb]
  rfl

/-- Settles O44: the model's checks are the table of R42 (`gridCheck_firstFailing`); that of the product follows
from the two ranges before it, so an accepted command need not pass it separately. -/
theorem gridIsReplacedOrRefused : Obligations.GridIsReplacedOrRefused := by
  constructor
  · intro s snap h hh hbuffers hoff hcols hcols' hrows hrows' hlead
    have hzones : param snap 0 2 * param snap 2 2 ≤ 96 * 54 := Nat.mul_le_mul hcols' hrows'
    have hall : ∀ q ∈ gridChecks s snap, q.1 := by
      simp only [gridChecks, List.forall_mem_cons]
      exact ⟨hbuffers, hoff, ⟨hcols, hcols'⟩, ⟨hrows, hrows'⟩, hzones, hlead, List.forall_mem_nil _⟩
    rw [exec_setGrid_accepted s snap h hh ((gridCheck_firstFailing s snap).eq_rest hall), replaceGrid_eq]
    rfl
  · intro s snap h hh checks before p a after hsplit hbefore hp
    have htable : FirstFailing none (s.gridCheck snap) checks := gridCheck_firstFailing s snap
    rw [hsplit] at htable
    exact exec_setGrid_refused s snap a h hh (htable.eq_some hbefore hp)

end Sys2Proof.Laws
end


section
/-! SUPPORT. The proofs about the tone curve (R60) and SELECT_SET (R74): the clamp of stage 2 read in the integers, and what
SELECT_SET does by the value of its parameter. -/

namespace Sys2Proof.Laws

open Sys2Proof Sys2Proof.Machine Sys2Proof.Safety

/-! ### Stage 2, the tone curve (R60) -/

/-- Dropping the negative values before a clamp from 0 loses nothing: the clamp sends them to 0 too. -/
theorem clampTo_zero_toNat (hi : Nat) (x : Int) : ((clampTo 0 hi x.toNat : Nat) : Int) = max 0 (min (hi : Int) x) := by
  unfold clampTo
  omega

/-- Settles O18: the model's division rounds toward minus infinity because its divisor is positive, and its clamp on natural
numbers is that of R60 on integers (`clampTo_zero_toNat`). -/
theorem toneCurveRoundsDown : Obligations.ToneCurveRoundsDown := by
  intro p v
  have hdiv (x : Int) : x.fdiv 32 = x / 32 := Int.fdiv_eq_ediv_of_nonneg x (by decide)
  rw [hdiv]
  unfold toneCurve
  rw [Nat.cast_max, clampTo_zero_toNat]
  rfl

/-! ### SELECT_SET (R74) -/

/-- SELECT_SET with an accepted header does what R74 says once it has begun. -/
theorem exec_selectSet (s : State) (snap : BitVec 1024) (h : canBegin s snap) (hh : headed snap 4 4) :
    exec .selectSet s = .next (State.runSelectSet snap (s.beginCommand snap)) :=
  congrArg Host.Outcome.next
    (runCommand_body .selectSet _ s snap h (by simp [Row.accepts, hh.1]) (headerCheck_headed snap 4 4 hh rfl))

/-- Beginning a command touches the ring alone, so it may be done after the set is selected. -/
theorem selectSet_beginCommand (x : SetId) (snap : BitVec 1024) (s : State) :
    (s.beginCommand snap).selectSet x = (s.selectSet x).beginCommand snap := rfl

theorem exec_selectSet_a (s : State) (snap : BitVec 1024) (h : canBegin s snap) (hh : headed snap 4 4)
    (hp : param snap 0 1 = 0) : exec .selectSet s = .next (answered (s.selectSet .a) snap [] (.done, 0)) := by
  rw [exec_selectSet s snap h hh, ← answer_beginCommand, ← selectSet_beginCommand]
  simp only [State.runSelectSet, hp]

theorem exec_selectSet_b (s : State) (snap : BitVec 1024) (h : canBegin s snap) (hh : headed snap 4 4)
    (hp : param snap 0 1 = 1) : exec .selectSet s = .next (answered (s.selectSet .b) snap [] (.done, 0)) := by
  rw [exec_selectSet s snap h hh, ← answer_beginCommand, ← selectSet_beginCommand]
  simp only [State.runSelectSet, hp]

/-- A parameter that names neither set has no effect but its answer. -/
theorem exec_selectSet_unnamed (s : State) (snap : BitVec 1024) (h : canBegin s snap) (hh : headed snap 4 4)
    (hp : 2 ≤ param snap 0 1) : exec .selectSet s = .next (answered s snap [] (.badParam, 1)) := by
  obtain ⟨n, hn⟩ := Nat.exists_eq_add_of_le' hp
  rw [exec_selectSet s snap h hh, ← answer_beginCommand]
  simp only [State.runSelectSet, hn]

/-- Settles O45: the three answers of R74, by the value of the parameter. -/
theorem setIsSelected : Obligations.SetIsSelected := fun s snap h hh =>
  ⟨exec_selectSet_a s snap h hh, exec_selectSet_b s snap h hh, exec_selectSet_unnamed s snap h hh⟩

end Sys2Proof.Laws
end

section
/-! SUPPORT. The proof about Pixel Compensation (R97 to R99, R101 to R103): the centre a pixel takes and its weight toward the
next, what a word's colour fields read after they are replaced, and the bounds of the gain used for a word. -/

namespace Sys2Proof.Laws

open Sys2Proof Sys2Proof.Machine Sys2Proof.Safety

/-! ### The place of a pixel among the centres (R97 to R99) -/

theorem place_of_lt_first {n size pos : Nat} (h : pos < doubledCentre n size 0) : place n size pos = (0, 0) := if_pos h

theorem place_index {n size pos : Nat} (h : doubledCentre n size 0 ≤ pos) :
    (place n size pos).1 = lastAtMost n (doubledCentre n size) pos := by
  rw [place, if_neg (Nat.not_lt.2 h)]
  dsimp only
  split_ifs <;> rfl

/-- From the last centre on there is no blending. -/
theorem place_weight_last {n size pos : Nat} (h : doubledCentre n size 0 ≤ pos) (hi : (place n size pos).1 + 1 = n) :
    (place n size pos).2 = 0 := by
  rw [place_index h] at hi
  rw [place, if_neg (Nat.not_lt.2 h)]
  dsimp only
  rw [if_pos hi]

/-- Between two centres the weight is the distance from the first in parts of 256 of their distance. -/
theorem place_weight_between {n size pos : Nat} (h : doubledCentre n size 0 ≤ pos) (hi : (place n size pos).1 + 1 ≠ n) :
    (place n size pos).2
      = (pos - doubledCentre n size (place n size pos).1) * 256
          / (doubledCentre n size ((place n size pos).1 + 1) - doubledCentre n size (place n size pos).1) := by
  rw [place_index h] at hi ⊢
  rw [place, if_neg (Nat.not_lt.2 h)]
  dsimp only
  rw [if_neg hi]

/-- The place is that of the last centre at or before the pixel. -/
theorem place_index_spec {n size pos : Nat} (hn : 1 ≤ n) (h : doubledCentre n size 0 ≤ pos) :
    (place n size pos).1 < n ∧ doubledCentre n size (place n size pos).1 ≤ pos
    ∧ ∀ j, (place n size pos).1 < j → j < n → pos < doubledCentre n size j := by
  obtain ⟨m, rfl⟩ := Nat.exists_eq_add_of_le' hn
  rw [place_index h]
  obtain ⟨hle, hat, hafter⟩ := lastAtMost_spec (n := m) h
  exact ⟨Nat.lt_succ_of_le hle, hat, fun j hj hjn => hafter j hj (Nat.le_of_lt_succ hjn)⟩

/-- A weight is below 256, because the pixel lies before the next centre. -/
theorem place_weight_le {n size pos : Nat} (hn : 1 ≤ n) : (place n size pos).2 ≤ 255 := by
  rcases Nat.lt_or_ge pos (doubledCentre n size 0) with hbefore | hfrom
  · rw [place_of_lt_first hbefore]
    exact Nat.zero_le _
  · obtain ⟨hlt, hat, hafter⟩ := place_index_spec hn hfrom
    by_cases hi : (place n size pos).1 + 1 = n
    · rw [place_weight_last hfrom hi]
      exact Nat.zero_le _
    · have hnext := hafter ((place n size pos).1 + 1) (Nat.lt_succ_self _) (Nat.lt_of_le_of_ne hlt hi)
      rw [place_weight_between hfrom hi]
      refine Nat.le_of_lt_succ (Nat.div_lt_of_lt_mul ?_)
      omega

/-! ### The colour fields of a word (section 10.2) -/

theorem colours_le (fmt : PixelFormat) (w : Word) :
    (colours fmt w).1 ≤ fullScale fmt ∧ (colours fmt w).2.1 ≤ fullScale fmt ∧ (colours fmt w).2.2 ≤ fullScale fmt := by
  have field (start len : Nat) : (w.extractLsb' start len).toNat ≤ 2 ^ len - 1 := Nat.le_sub_one_of_lt (BitVec.isLt _)
  cases fmt with
  | rgb10 => exact ⟨field 20 10, field 10 10, field 0 10⟩
  | rgb8 => exact ⟨field 16 8, field 8 8, field 0 8⟩

theorem largestField_le (fmt : PixelFormat) (w : Word) : largestField fmt w ≤ fullScale fmt := by
  obtain ⟨hr, hg, hb⟩ := colours_le fmt w
  exact Nat.max_le.2 ⟨hr, Nat.max_le.2 ⟨hg, hb⟩⟩

/-- Each of four fields put beside one another reads back. -/
theorem extract_append_fields {n k : Nat} (top : BitVec n) (r g b : BitVec k) :
    (top ++ r ++ g ++ b).extractLsb' (k + k + k) n = top ∧ (top ++ r ++ g ++ b).extractLsb' (k + k) k = r
    ∧ (top ++ r ++ g ++ b).extractLsb' k k = g ∧ (top ++ r ++ g ++ b).extractLsb' 0 k = b := by
  refine ⟨?_, ?_, ?_, BitVec.extractLsb'_append_eq_right⟩ <;> rw [BitVec.extractLsb'_append_eq_of_le (by omega)]
  · rw [Nat.add_sub_cancel, BitVec.extractLsb'_append_eq_of_le (by omega), Nat.add_sub_cancel]
    exact BitVec.extractLsb'_append_eq_left
  · rw [Nat.add_sub_cancel, BitVec.extractLsb'_append_eq_of_le (Nat.le_refl k), Nat.sub_self]
    exact BitVec.extractLsb'_append_eq_right
  · rw [Nat.sub_self]
    exact BitVec.extractLsb'_append_eq_right

/-- The fields of a word are those just put into it, each cut to its width. -/
theorem colours_putColours_mod (fmt : PixelFormat) (w : Word) (r g b : Nat) :
    colours fmt (putColours fmt w r g b) = (r % (fullScale fmt + 1), g % (fullScale fmt + 1), b % (fullScale fmt + 1)) := by
  have triple {k : Nat} {x y z : BitVec k} (hx : x = BitVec.ofNat k r) (hy : y = BitVec.ofNat k g)
      (hz : z = BitVec.ofNat k b) : (x.toNat, y.toNat, z.toNat) = (r % 2 ^ k, g % 2 ^ k, b % 2 ^ k) := by
    simp only [hx, hy, hz, BitVec.toNat_ofNat]
  cases fmt with
  | rgb10 =>
    obtain ⟨-, hr, hg, hb⟩ := extract_append_fields (w.extractLsb' 30 2) (BitVec.ofNat 10 r) (.ofNat 10 g) (.ofNat 10 b)
    exact triple hr hg hb
  | rgb8 =>
    obtain ⟨-, hr, hg, hb⟩ := extract_append_fields (w.extractLsb' 24 8) (BitVec.ofNat 8 r) (.ofNat 8 g) (.ofNat 8 b)
    exact triple hr hg hb

/-- Fields in range read back after they are put into a word. -/
theorem colours_putColours {fmt : PixelFormat} (w : Word) {r g b : Nat} (hr : r ≤ fullScale fmt) (hg : g ≤ fullScale fmt)
    (hb : b ≤ fullScale fmt) : colours fmt (putColours fmt w r g b) = (r, g, b) := by
  rw [colours_putColours_mod, Nat.mod_eq_of_lt (Nat.lt_succ_of_le hr), Nat.mod_eq_of_lt (Nat.lt_succ_of_le hg),
    Nat.mod_eq_of_lt (Nat.lt_succ_of_le hb)]

theorem putColours_rgb10_top (w : Word) (r g b : Nat) :
    (putColours .rgb10 w r g b).extractLsb' 30 2 = w.extractLsb' 30 2 := (extract_append_fields _ _ _ _).1

theorem putColours_rgb8_top (w : Word) (r g b : Nat) :
    (putColours .rgb8 w r g b).extractLsb' 24 8 = w.extractLsb' 24 8 := (extract_append_fields _ _ _ _).1

/-- Four adjacent fields of a word beside one another are the whole word. -/
theorem append_extract_fields {n k : Nat} (w : BitVec (n + k + k + k)) :
    w.extractLsb' (k + k + k) n ++ w.extractLsb' (k + k) k ++ w.extractLsb' k k ++ w.extractLsb' 0 k = w := by
  rw [BitVec.extractLsb'_append_extractLsb'_eq_extractLsb' rfl, BitVec.extractLsb'_append_extractLsb'_eq_extractLsb' rfl,
    BitVec.extractLsb'_append_extractLsb'_eq_extractLsb' (Nat.zero_add k).symm, BitVec.extractLsb'_eq_self]

/-- Putting back a word's own fields changes nothing. -/
theorem putColours_colours (fmt : PixelFormat) (w : Word) :
    putColours fmt w (colours fmt w).1 (colours fmt w).2.1 (colours fmt w).2.2 = w := by
  cases fmt <;> simp only [putColours, colours, BitVec.ofNat_toNat, BitVec.setWidth_eq]
  case rgb10 => exact append_extract_fields (n := 2) (k := 10) w
  case rgb8 => exact append_extract_fields (n := 8) (k := 8) w

/-! ### The gain of a word (R103) -/

theorem wordGain_of_acts {c : ReadClass} {g m : Nat} (h : clipActs c g m = true) :
    wordGain c g m = fullScale c.format * 256 / m := if_pos h

theorem wordGain_of_idle {c : ReadClass} {g m : Nat} (h : ¬clipActs c g m = true) : wordGain c g m = g := if_neg h

theorem clipActs_iff (c : ReadClass) (g m : Nat) :
    clipActs c g m = true ↔ c.hueClip = true ∧ 0 < m ∧ fullScale c.format < scaled g m := by
  simp only [clipActs, Bool.and_eq_true, decide_eq_true_eq, and_assoc]

/-- R103 in the words of the obligation: the clip's three conditions as one. -/
theorem wordGain_eq (c : ReadClass) (g m : Nat) :
    wordGain c g m
      = if c.hueClip = true ∧ 0 < m ∧ fullScale c.format < scaled g m then fullScale c.format * 256 / m else g := by
  simp only [wordGain, clipActs_iff]

theorem scaled_le_iff (g m k : Nat) : scaled g m ≤ k ↔ m * g + 128 < (k + 1) * 256 := by
  unfold scaled
  omega

/-- The gain of a word lies between 256 and the blended gain: the clip acts only where the blended gain takes the largest
field past full scale, and that field was in range before. -/
theorem wordGain_bounds (c : ReadClass) {g m : Nat} (hg : 256 ≤ g) (hm : m ≤ fullScale c.format) :
    256 ≤ wordGain c g m ∧ wordGain c g m ≤ g := by
  by_cases h : clipActs c g m = true
  · obtain ⟨-, hpos, hover⟩ := (clipActs_iff c g m).1 h
    rw [← Nat.not_le, scaled_le_iff] at hover
    rw [wordGain_of_acts h, Nat.le_div_iff_mul_le hpos]
    refine ⟨?_, Nat.div_le_of_le_mul ?_⟩ <;> omega
  · rw [wordGain_of_idle h]
    exact ⟨hg, Nat.le_refl g⟩

/-- With the hue-preserving clip on, the largest field stays in range, so no field is clamped. -/
theorem scaled_wordGain_le {c : ReadClass} (hc : c.hueClip = true) (g m : Nat) :
    scaled (wordGain c g m) m ≤ fullScale c.format := by
  by_cases h : clipActs c g m = true
  · have hdiv : m * (fullScale c.format * 256 / m) ≤ fullScale c.format * 256 := Nat.mul_div_le _ _
    rw [wordGain_of_acts h, scaled_le_iff]
    omega
  · rw [wordGain_of_idle h]
    rcases Nat.eq_zero_or_pos m with rfl | hpos
    · simp [scaled]
    · exact Nat.not_lt.1 fun hover => h ((clipActs_iff c g m).2 ⟨hc, hpos, hover⟩)

/-! ### A compensated word (R96, R101 to R103) -/

theorem scaleField_le (fmt : PixelFormat) (g v : Nat) : scaleField fmt g v ≤ fullScale fmt := Nat.min_le_left _ _

theorem scaleField_unity {fmt : PixelFormat} {v : Nat} (hv : v ≤ fullScale fmt) : scaleField fmt 256 v = v := by
  unfold scaleField scaled
  omega

theorem colours_compensateWord (c : ReadClass) (g : Nat) (v : Word) :
    colours c.format (compensateWord c g v)
      = (scaleField c.format (wordGain c g (largestField c.format v)) (colours c.format v).1,
         scaleField c.format (wordGain c g (largestField c.format v)) (colours c.format v).2.1,
         scaleField c.format (wordGain c g (largestField c.format v)) (colours c.format v).2.2) :=
  colours_putColours v (scaleField_le _ _ _) (scaleField_le _ _ _) (scaleField_le _ _ _)

theorem compensateWord_rgb10_top {c : ReadClass} (hf : c.format = .rgb10) (g : Nat) (v : Word) :
    (compensateWord c g v).extractLsb' 30 2 = v.extractLsb' 30 2 := by
  rw [compensateWord, hf]
  exact putColours_rgb10_top v _ _ _

theorem compensateWord_rgb8_top {c : ReadClass} (hf : c.format = .rgb8) (g : Nat) (v : Word) :
    (compensateWord c g v).extractLsb' 24 8 = v.extractLsb' 24 8 := by
  rw [compensateWord, hf]
  exact putColours_rgb8_top v _ _ _

/-- A gain of 256 is 1: the clip cannot act, and every field keeps its value. -/
theorem compensateWord_unity (c : ReadClass) (v : Word) : compensateWord c 256 v = v := by
  obtain ⟨hlow, hhigh⟩ := wordGain_bounds c (Nat.le_refl 256) (largestField_le c.format v)
  obtain ⟨hr, hg, hb⟩ := colours_le c.format v
  rw [compensateWord, Nat.le_antisymm hhigh hlow, scaleField_unity hr, scaleField_unity hg, scaleField_unity hb]
  exact putColours_colours c.format v

/-- Settles O25: the place by the last centre at or before the pixel (`place_index_spec`), the word by its gain
(`wordGain_bounds`, `scaled_wordGain_le`) and the fields it puts back (`colours_compensateWord`). -/
theorem pixelsAreScaledByPlace : Obligations.PixelsAreScaledByPlace := by
  constructor
  · intro n size pos hn _
    refine ⟨place_of_lt_first, fun hfrom => ?_, place_weight_le hn⟩
    obtain ⟨hlt, hat, hafter⟩ := place_index_spec hn hfrom
    exact ⟨hlt, hat, fun j hj hle => Nat.not_lt.1 fun hij => Nat.not_lt.2 hle (hafter j hij hj),
      place_weight_last hfrom, fun hi => place_weight_between hfrom (Nat.ne_of_lt hi)⟩
  · intro c g v hg
    have hgain := wordGain_eq c g (largestField c.format v)
    obtain ⟨hlow, hhigh⟩ := wordGain_bounds c hg (largestField_le c.format v)
    have hfields := colours_compensateWord c g v
    have hclip := fun hc => scaled_wordGain_le (c := c) hc g (largestField c.format v)
    rw [hgain] at hlow hhigh hfields hclip
    exact ⟨hfields, fun hf => compensateWord_rgb10_top hf g v, fun hf => compensateWord_rgb8_top hf g v, hlow, hhigh,
      hclip, fun h => h ▸ compensateWord_unity c v⟩

end Sys2Proof.Laws
end

section
/-! SUPPORT. The proof about CLEAR_FAULT for zones (R129): the record of a line after it, the whole state after it, and the
command answered once it has begun. -/

namespace Sys2Proof.Laws

open Sys2Proof Sys2Proof.Machine Sys2Proof.Safety

/-! ### CLEAR_FAULT for zones (R129) -/

/-- The SETUP owed after the command, as one disjunction: it was owed already, or the line is STARTING or RUNNING. -/
theorem clearZonesLine_eq (x : Line) :
    clearZonesLine x
      = { x with
          openSuspect := 0
          shortSuspect := 0
          setupOwed := x.setupOwed || decide (x.state = .starting ∨ x.state = .running) } := by
  by_cases h : x.state = .starting ∨ x.state = .running
  · simp [clearZonesLine, clearSuspects, h]
  · simp [clearZonesLine, clearSuspects, h]

/-- The lines are cleared one after another, each record on its own, so the clearing is one record update. -/
theorem clearZones_eq (s : State) :
    s.clearZones
      = { s with
          faults := { openMarks := 0, shortMarks := 0 }
          lines := s.lines.map clearZonesLine } := by
  rw [State.clearZones, forLines_map]

/-- Beginning a command touches the ring alone, so it may be done after the marks are cleared. -/
theorem clearZones_beginCommand (snap : BitVec 1024) (s : State) :
    (s.beginCommand snap).clearZones = s.clearZones.beginCommand snap := by
  rw [clearZones_eq, clearZones_eq]
  rfl

/-- CLEAR_FAULT with an accepted header and the kind ZONES clears the marks and is answered DONE: the row accepts it
because its kind is neither of the other two. -/
theorem exec_clearFaultZones (s : State) (snap : BitVec 1024) (h : canBegin s snap) (hh : headed snap 9 4)
    (hk : param snap 0 1 = 2) : exec .clearFaultZones s = .next (answered s.clearZones snap [] (.done, 0)) := by
  have haccepts : Row.accepts .clearFaultZones snap = true := by simp [Row.accepts, hh.1, hk]
  have hbody : exec .clearFaultZones s = .next (State.runClearZones snap (s.beginCommand snap)) :=
    congrArg Host.Outcome.next
      (runCommand_body .clearFaultZones _ s snap h haccepts (headerCheck_headed snap 9 4 hh rfl))
  rw [hbody, State.runClearZones, if_pos hk, clearZones_beginCommand, answer_beginCommand]

/-- Settles O49: the command clears the marks and is answered (`exec_clearFaultZones`), and that clearing is one record
update (`clearZones_eq`) whose lines are those of R129 (`clearZonesLine_eq`). -/
theorem zoneFaultsAreCleared : Obligations.ZoneFaultsAreCleared := by
  intro s snap h hh hk
  rw [exec_clearFaultZones s snap h hh hk, clearZones_eq, funext clearZonesLine_eq]

end Sys2Proof.Laws
end

section
/-! SUPPORT. What every command does to the state as a whole: it completes, and it changes the pieces that `touched` lists
at most; and what is true of a step because it is true of every command. -/

namespace Sys2Proof.Laws

open Sys2Proof Sys2Proof.Machine Sys2Proof.Safety

/-! ### The pieces that a command may change -/

/-- The pieces that a command may change. RESET_ASSERTED keeps the model's own two fields only (assumption 2). -/
def touched : Instr → List Piece
  | .requestReceived _ => requestPieces
  | .downstreamSend | .injectedRequestOffer => [.link, .ring]
  | .returnBeatReceived _ | .downstreamLinkDown => downPieces
  | .upstreamLinkDown | .upstreamLinkUp | .downstreamLinkUp => [.link]
  | .resetAsserted =>
    [.resetAsserted, .cfg, .ms, .link, .windows, .buffers, .queue, .grid, .banks, .engine, .history, .results, .drive,
     .scan, .lines, .faults, .protection, .ring, .tables, .events, .accrued]
  | .resetReleased _ => [.resetAsserted, .cfg, .ms]
  | .analysisStart => [.buffers, .queue, .engine]
  | .analysisCompletion => completionPieces
  | .supervisionTimerExpiry => commitPieces
  | .setupBuild _ | .levelBuild _ | .latchBuild _ | .pollBuild _ | .retryDelayElapsed _ | .pollTimerExpiry _ => [.lines]
  | .latchEnd _ | .powerUpStep => [.lines, .protection]
  | .returnCheck _ _ => [.lines, .faults, .protection, .events, .accrued]
  | .timeout _ | .waitSlotElapsed _ | .powerDownStep | .ocTrip | .overcurrentSample _ => powerPieces
  | .analogSample _ | .coolDownEnd _ => samplePieces
  | .timedRelease => [.protection, .events, .accrued]
  | .window => [.windows, .buffers, .ring, .freeCount]
  | .windowOff => [.windows, .buffers, .queue, .banks, .engine, .scan, .ring, .freeCount]
  | .setGrid => [.engine, .grid, .banks, .history, .drive, .scan, .faults, .tables, .lines, .ring, .freeCount]
  | .selectSet => [.engine, .ring, .freeCount]
  | .backlightOn | .backlightOff | .clearFaultProtection => [.protection, .lines, .events, .accrued, .ring, .freeCount]
  | .loadTable | .badCommand => [.ring, .freeCount]
  | .tableLoadBegin => loadPieces
  | .readStatus => [.accrued, .ring, .freeCount]
  | .readEvents => [.events, .ring, .freeCount]
  | .clearFaultLine => [.lines, .ring, .freeCount]
  | .clearFaultZones => [.faults, .lines, .ring, .freeCount]

theorem outside_whenLive {ps : List Piece} {f : State → State} (h : ∀ s, Outside ps s (f s)) (s : State) :
    Outside ps s (s.whenLive f) :=
  outside_ite (outside_refl ps s) (h s)

/-- What a command of the ring touches besides the answer: its own effects first, then the answer. -/
theorem outside_answered {ps : List Piece} (hr : Piece.ring ∈ ps) (hf : Piece.freeCount ∈ ps) {s t : State}
    (h : Outside ps s t) (data : List Injected) (a : Answer) : Outside ps s (t.answer data a) :=
  outside_step (outside_answer data a t) (by simpa using ⟨hr, hf⟩) h

theorem outside_runWindow (snap : BitVec 1024) (s : State) : Outside (touched .window) s (s.runWindow snap) := by
  have answers := @outside_answered (touched .window) (by decide) (by decide)
  unfold State.runWindow
  split
  · exact answers (outside_refl _ s) _ _
  · split
    · exact answers (outside_refl _ s) _ _
    · exact answers (outside_mono (outside_describeWindow _ _ s) (by decide)) _ _

theorem outside_runWindowOff (snap : BitVec 1024) (s : State) : Outside (touched .windowOff) s (s.runWindowOff snap) := by
  have answers := @outside_answered (touched .windowOff) (by decide) (by decide)
  unfold State.runWindowOff
  split
  · exact answers (outside_refl _ s) _ _
  · split
    · exact answers (outside_refl _ s) _ _
    · exact answers (outside_mono (outside_disableWindow _ s) (by decide)) _ _

theorem outside_runSetGrid (snap : BitVec 1024) (s : State) : Outside (touched .setGrid) s (s.runSetGrid snap) := by
  have answers := @outside_answered (touched .setGrid) (by decide) (by decide)
  unfold State.runSetGrid
  split
  · exact answers (outside_refl _ s) _ _
  · exact answers (outside_mono (outside_replaceGrid _ s) (by decide)) _ _

theorem outside_selectSet (x : SetId) (s : State) : Outside [.engine] s (s.selectSet x) := outside_engine s _

theorem outside_runSelectSet (snap : BitVec 1024) (s : State) : Outside (touched .selectSet) s (s.runSelectSet snap) := by
  have answers := @outside_answered (touched .selectSet) (by decide) (by decide)
  unfold State.runSelectSet
  split
  · exact answers (outside_mono (outside_selectSet _ s) (by decide)) _ _
  · exact answers (outside_mono (outside_selectSet _ s) (by decide)) _ _
  · exact answers (outside_refl _ s) _ _

theorem outside_runBacklightOn (snap : BitVec 1024) (s : State) :
    Outside (touched .backlightOn) s (s.runBacklightOn snap) := by
  have answers := @outside_answered (touched .backlightOn) (by decide) (by decide)
  have target : Outside (touched .backlightOn) s (s.setTarget true) := outside_mono (outside_setTarget true s) (by decide)
  unfold State.runBacklightOn State.backlightOn
  split
  · split
    · split
      · exact answers (outside_refl _ s) _ _
      · exact answers (outside_step (outside_powerUpBegin _) (by decide) target) _ _
    · exact answers target _ _
    · exact answers target _ _
    · exact answers (outside_refl _ s) _ _
    · exact outside_ite (answers (outside_refl _ s) _ _) (answers (outside_refl _ s) _ _)
    · exact answers (outside_refl _ s) _ _
  · exact answers (outside_refl _ s) _ _

theorem outside_runBacklightOff (snap : BitVec 1024) (s : State) :
    Outside (touched .backlightOff) s (s.runBacklightOff snap) := by
  have answers := @outside_answered (touched .backlightOff) (by decide) (by decide)
  exact outside_ite (answers (outside_mono (outside_backlightOff s) (by decide)) _ _) (answers (outside_refl _ s) _ _)

theorem outside_runLoadTable (snap : BitVec 1024) (s : State) : Outside (touched .loadTable) s (s.runLoadTable snap) := by
  have answers := @outside_answered (touched .loadTable) (by decide) (by decide)
  unfold State.runLoadTable
  split
  · exact answers (outside_refl _ s) _ _
  · split
    · exact answers (outside_refl _ s) _ _
    · exact outside_mono (outside_setLoad _ _ s) (by decide)

theorem outside_runReadStatus (snap : BitVec 1024) (s : State) :
    Outside (touched .readStatus) s (s.runReadStatus snap) := by
  have answers := @outside_answered (touched .readStatus) (by decide) (by decide)
  exact outside_ite
    (answers (outside_ite (outside_mono (outside_accrued s 0) (by decide)) (outside_refl _ s)) _ _)
    (answers (outside_refl _ s) _ _)

theorem outside_runReadEvents (snap : BitVec 1024) (s : State) :
    Outside (touched .readEvents) s (s.runReadEvents snap) := by
  have answers := @outside_answered (touched .readEvents) (by decide) (by decide)
  refine outside_ite (answers (outside_refl _ s) _ _) (answers ?_ _ _)
  exact outside_step (qs := [.freeCount]) (outside_freeCount { s with events := s.events.drop _ } _) (by decide)
    (outside_mono (outside_events s _) (by decide))

theorem outside_runClearLine (snap : BitVec 1024) (s : State) :
    Outside (touched .clearFaultLine) s (s.runClearLine snap) := by
  have answers := @outside_answered (touched .clearFaultLine) (by decide) (by decide)
  unfold State.runClearLine
  split
  · split
    · exact answers (outside_refl _ s) _ _
    · exact answers (outside_mono (outside_clearLine _ s) (by decide)) _ _
  · exact answers (outside_refl _ s) _ _

theorem outside_runClearZones (snap : BitVec 1024) (s : State) :
    Outside (touched .clearFaultZones) s (s.runClearZones snap) := by
  have answers := @outside_answered (touched .clearFaultZones) (by decide) (by decide)
  exact outside_ite (answers (outside_mono (outside_clearZones s) (by decide)) _ _) (answers (outside_refl _ s) _ _)

theorem outside_runClearProtection (snap : BitVec 1024) (s : State) :
    Outside (touched .clearFaultProtection) s (s.runClearProtection snap) := by
  have answers := @outside_answered (touched .clearFaultProtection) (by decide) (by decide)
  exact outside_ite (answers (outside_mono (outside_clearProtection s) (by decide)) _ _) (answers (outside_refl _ s) _ _)

/-! ### Every command completes -/

/-- ANALYSIS_START completes: a QUEUED head finds a free slot (`freeSlot_isSome`). -/
theorem execAnalysisStart_next (s : State) :
    ∃ t, execAnalysisStart s = .next t ∧ Outside (touched .analysisStart) s t := by
  have same : ∃ t, (Host.Outcome.next s : Out) = .next t ∧ Outside (touched .analysisStart) s t :=
    ⟨s, rfl, outside_refl _ s⟩
  unfold execAnalysisStart
  split
  · exact same
  · split
    · rename_i w rest ha hq
      split
      · rename_i b hb
        obtain ⟨k, hk⟩ := freeSlot_isSome s w b ha hb
        rw [hk]
        exact ⟨_, rfl, outside_startAnalysis w b k rest s⟩
      all_goals exact same
    · exact same

/-- Every command completes, and changes the pieces that it touches at most. -/
theorem exec_next (c : Instr) (s : State) : ∃ t, exec c s = .next t ∧ Outside (touched c) s t := by
  have live {f : State → State} (h : ∀ s, Outside (touched c) s (f s)) (s : State) :
      ∃ t, (Host.Outcome.next (s.whenLive f) : Out) = .next t ∧ Outside (touched c) s t :=
    ⟨_, rfl, outside_whenLive h s⟩
  have ring {r : Row} {body : BitVec 1024 → State → State} (hr : Piece.ring ∈ touched c)
      (hf : Piece.freeCount ∈ touched c) (h : ∀ snap t, Outside (touched c) t (body snap t)) (s : State) :
      ∃ t, (Host.Outcome.next (s.runCommand r body) : Out) = .next t ∧ Outside (touched c) s t :=
    ⟨_, rfl, outside_runCommand hr hf r h s⟩
  have line (f : State → Line → Line) (l : LineNo) (t : State) : Outside [.lines] t (t.modifyLine l (f t)) :=
    outside_modifyLine l (f t) t
  cases c with
  | requestReceived r =>
    refine live (fun s => ?_) s
    exact outside_ite (outside_refl _ s)
      (outside_ite (outside_mono (qs := requestPieces) (outside_link s _) (by decide)) (outside_receive r s))
  | downstreamSend => exact live (fun s => outside_ite (outside_sendNext s) (outside_refl _ s)) s
  | returnBeatReceived data =>
    refine live (fun s => outside_ite (outside_refl _ s) ?_) s
    split
    · exact outside_downstreamDown s
    · exact outside_routeReturn _ _ data s
  | upstreamLinkDown => exact live (fun s => outside_link s _) s
  | upstreamLinkUp => exact live (fun s => outside_link s _) s
  | downstreamLinkDown => exact live outside_downstreamDown s
  | downstreamLinkUp => exact live (fun s => outside_link s _) s
  | resetAsserted =>
    refine ⟨_, rfl, fun p hp => ?_⟩
    cases p <;> first
      | rfl
      | exact absurd (by decide) hp
  | resetReleased cfg =>
    refine ⟨_, rfl, outside_ite (ps := [.resetAsserted, .cfg, .ms]) (fun p hp => ?_) (outside_refl _ s)⟩
    cases p <;> first
      | rfl
      | exact absurd (by decide) hp
  | injectedRequestOffer => exact live (fun s => outside_ite (outside_offerNext s) (outside_refl _ s)) s
  | analysisStart => exact execAnalysisStart_next s
  | analysisCompletion =>
    refine live (fun s => ?_) s
    split
    · exact outside_completeAnalysis _ s
    · exact outside_refl _ s
  | supervisionTimerExpiry => exact live (fun s => outside_ite (outside_superviseExpire s) (outside_refl _ s)) s
  | setupBuild l => exact live (fun s => outside_ite (outside_modifyLine l _ s) (outside_refl _ s)) s
  | levelBuild l => exact live (fun s => outside_ite (outside_buildLevel l s) (outside_refl _ s)) s
  | latchBuild l => exact live (fun s => outside_ite (outside_modifyLine l _ s) (outside_refl _ s)) s
  | pollBuild l => exact live (fun s => outside_ite (outside_modifyLine l _ s) (outside_refl _ s)) s
  | latchEnd l =>
    refine live (fun s => ?_) s
    split
    · exact outside_ite (ps := [.lines, .protection])
        (outside_step (outside_protection (s.modifyLine l _) _) (by decide) (outside_mono (outside_modifyLine l _ s) (by decide)))
        (outside_refl _ s)
    · exact outside_refl _ s
  | returnCheck l bytes =>
    refine live (fun s => ?_) s
    split
    · exact outside_ite (ps := [.lines, .faults, .protection, .events, .accrued])
        (outside_ite (outside_mono (outside_frameSucceeds l _ bytes s) (by decide))
          (outside_mono (outside_frameFails l _ s) (by decide)))
        (outside_refl _ s)
    · exact outside_refl _ s
  | timeout l =>
    refine live (fun s => ?_) s
    split
    · exact outside_frameFails l _ s
    · exact outside_refl _ s
  | waitSlotElapsed l => exact live (fun s => outside_ite (outside_lineStarts l s) (outside_refl _ s)) s
  | retryDelayElapsed l => exact live (fun s => outside_ite (outside_retryLine l s) (outside_refl _ s)) s
  | pollTimerExpiry l => exact live (fun s => outside_ite (outside_modifyLine l _ s) (outside_refl _ s)) s
  | powerUpStep =>
    refine live (fun s => ?_) s
    split
    · exact outside_ite
        (outside_step (outside_startOrder _ _) (by decide) (outside_mono (outside_setSequencer _ _ s) (by decide)))
        (outside_refl _ s)
    all_goals exact outside_refl _ s
  | powerDownStep => exact live (fun s => outside_ite (outside_dropOne s) (outside_refl _ s)) s
  | analogSample codes => exact live (outside_sample codes) s
  | coolDownEnd codes => exact live (fun s => outside_ite (outside_sample codes s) (outside_refl _ s)) s
  | ocTrip => exact live (fun s => outside_ite (outside_ocSample true s) (outside_refl _ s)) s
  | timedRelease =>
    refine live (fun s => ?_) s
    split
    · exact outside_ite (outside_releaseTrip s) (outside_refl _ s)
    · exact outside_refl _ s
  | window => exact ring (by decide) (by decide) outside_runWindow s
  | windowOff => exact ring (by decide) (by decide) outside_runWindowOff s
  | setGrid => exact ring (by decide) (by decide) outside_runSetGrid s
  | selectSet => exact ring (by decide) (by decide) outside_runSelectSet s
  | backlightOn => exact ring (by decide) (by decide) outside_runBacklightOn s
  | backlightOff => exact ring (by decide) (by decide) outside_runBacklightOff s
  | loadTable => exact ring (by decide) (by decide) outside_runLoadTable s
  | tableLoadBegin =>
    refine live (fun s => ?_) s
    split
    · exact outside_refl _ s
    · split
      · exact outside_ite (outside_beginLoad _ s) (outside_refl _ s)
      · exact outside_refl _ s
  | readStatus => exact ring (by decide) (by decide) outside_runReadStatus s
  | readEvents => exact ring (by decide) (by decide) outside_runReadEvents s
  | clearFaultLine => exact ring (by decide) (by decide) outside_runClearLine s
  | clearFaultZones => exact ring (by decide) (by decide) outside_runClearZones s
  | clearFaultProtection => exact ring (by decide) (by decide) outside_runClearProtection s
  | badCommand => exact ring (by decide) (by decide) (fun _ t => outside_refl _ t) s
  | overcurrentSample asserted => exact live (outside_ocSample asserted) s

theorem exec_outside {c : Instr} {s t : State} (h : exec c s = .next t) : Outside (touched c) s t := by
  obtain ⟨u, hu, ho⟩ := exec_next c s
  rw [h] at hu
  cases hu
  exact ho

end Sys2Proof.Laws
end

section
/-! SUPPORT. The proofs about the step and RESET_N: a step is its front command, every command completes, the values after
RESET_N, what leaves them, and the invariants there. -/

namespace Sys2Proof.Laws

open Sys2Proof Sys2Proof.Machine Sys2Proof.Safety

/-! ### The step (assumption 1) -/

/-- Settles O1: the two cases of `step`, by whether a command waits. -/
theorem stepRunsFrontCommand : Obligations.StepRunsFrontCommand := by
  intro s c rest
  refine ⟨fun h => ?_, fun h => ?_⟩ <;> unfold step <;> rw [h]

theorem pending_not_touched (c : Instr) : Piece.pending ∉ touched c := by
  cases c <;> simp [touched]

/-- Settles O2: every command completes within the pieces it touches (`exec_next`), and the queue is none of them. -/
theorem everyCommandCompletes : Obligations.EveryCommandCompletes := by
  intro c s
  obtain ⟨t, ht, ho⟩ := exec_next c s
  exact ⟨t, ht, ho .pending (pending_not_touched c)⟩

/-- A property that does not look at the waiting commands is kept by every step if every command keeps it. -/
theorem step_keeps {P : State → Prop} (hpending : ∀ s rest, P s → P { s with pending := rest })
    (hexec : ∀ c s t, P s → exec c s = .next t → P t) {s t : State} (hs : P s) (h : step s = .next t) : P t := by
  unfold step at h
  split at h
  · cases h
    exact hs
  · exact hexec _ _ t (hpending s _ hs) h

/-! ### RESET_N (R19, R149) -/

/-- While RESET_N is asserted nothing but the two reset commands does anything (R19, R106, assumption 2). -/
theorem exec_asleep {c : Instr} {s : State} (h : s.resetAsserted = true) (ha : c ≠ .resetAsserted)
    (hr : ∀ cfg, c ≠ .resetReleased cfg) : exec c s = .next s := by
  have asleep (f : State → State) : (Host.Outcome.next (s.whenLive f) : Out) = .next s :=
    congrArg Host.Outcome.next (if_pos h)
  have waits (r : Row) (body : BitVec 1024 → State → State) : (Host.Outcome.next (s.runCommand r body) : Out) = .next s :=
    congrArg Host.Outcome.next (runCommand_waits r body s (Or.inl h))
  cases c
  case resetAsserted => exact absurd rfl ha
  case resetReleased cfg => exact absurd rfl (hr cfg)
  case analysisStart => exact if_pos h
  case window | windowOff | setGrid | selectSet | backlightOn | backlightOff | loadTable | readStatus | readEvents |
      clearFaultLine | clearFaultZones | clearFaultProtection | badCommand => exact waits _ _
  all_goals exact asleep _

theorem exec_resetReleased_live {s : State} (cfg : BitVec 3) (h : live s) : exec (.resetReleased cfg) s = .next s := by
  have : ¬s.resetAsserted = true := by rw [show s.resetAsserted = false from h]; decide
  exact congrArg Host.Outcome.next (if_neg this)

/-- Only the two reset commands touch the pin and the straps. -/
theorem straps_not_touched {c : Instr} (ha : c ≠ .resetAsserted) (hr : ∀ cfg, c ≠ .resetReleased cfg) :
    Piece.resetAsserted ∉ touched c ∧ Piece.cfg ∉ touched c := by
  cases c
  case resetAsserted => exact absurd rfl ha
  case resetReleased cfg => exact absurd rfl (hr cfg)
  all_goals simp [touched]

/-- Settles O4: the release is one record update, nothing else acts while RESET_N is low (`exec_asleep`), and no other
command touches the pin or the straps (`straps_not_touched`). -/
theorem resetIsLeftByItsRelease : Obligations.ResetIsLeftByItsRelease := by
  refine ⟨fun s cfg => ⟨fun h => ⟨_, congrArg Host.Outcome.next (if_pos h), ?_, rfl⟩, exec_resetReleased_live cfg⟩,
    fun c s h ha hr => exec_asleep h ha hr, fun c s t h ha he => ?_⟩
  · exact controlBase_eq _
  · have key : t.resetAsserted = s.resetAsserted ∧ t.cfg = s.cfg := by
      by_cases hr : ∀ cfg, c ≠ .resetReleased cfg
      · have ho := exec_outside he
        exact ⟨ho .resetAsserted (straps_not_touched ha hr).1, ho .cfg (straps_not_touched ha hr).2⟩
      · push Not at hr
        obtain ⟨cfg, rfl⟩ := hr
        rw [exec_resetReleased_live cfg h] at he
        cases he
        exact ⟨rfl, rfl⟩
    exact ⟨key.1.trans h, key.2, by rw [controlBase_eq, controlBase_eq, key.2]⟩

/-- Settles O3: every value is that of `State.reset`, read off by evaluation. -/
theorem resetAssertedValues : Obligations.ResetAssertedValues := by
  intro s
  refine ⟨_, rfl, rfl, rfl, rfl, rfl, rfl, rfl, ?_, rfl, rfl, rfl, rfl, fun z => rfl, rfl, ?_, ?_, fun z => rfl, rfl, ?_, rfl,
    rfl, rfl, rfl, ?_, rfl, rfl, ?_, fun z => ⟨rfl, rfl⟩, ?_, rfl, rfl, rfl, rfl, ?_, rfl, rfl⟩
  · intro w
    fin_cases w <;> exact ⟨rfl, rfl⟩
  · intro b
    fin_cases b <;> exact ⟨rfl, rfl, fun z => rfl⟩
  · intro k
    fin_cases k <;> exact ⟨rfl, fun z => ⟨rfl, rfl⟩⟩
  · intro l
    fin_cases l <;> exact ⟨rfl, rfl⟩
  · intro k
    exact ⟨by simp [State.reset, Ring.reset], by simp [State.reset, Ring.reset]⟩
  · intro id
    cases id <;> rfl
  · intro l
    fin_cases l <;> rfl
  · intro f
    exact BitVec.getLsbD_zero

/-- The records that no analysis has written lie in range (assumption 5). -/
theorem resultOk_unwritten : resultOk Result.unwritten := fun _ => ⟨Nat.zero_le _, Nat.le_refl 256, (by decide : 256 ≤ 4096)⟩

/-- Every line is OFF with no frame in flight after RESET_N (R106). -/
theorem reset_lines (l : LineNo) : State.reset.lines[l] = Line.reset := Vector.getElem_replicate ..

theorem reset_buffers (w : WindowNo) : State.reset.buffers[w] = Buffer.reset := Vector.getElem_replicate ..

theorem linkInv_reset : LinkInv State.reset.link :=
  { up := nofun, down := fun _ => rfl, forward := Nat.zero_le _, injected := Nat.zero_le _, tracking := Nat.zero_le _,
    wait := Nat.zero_le _, idle := fun _ => rfl }

theorem powerInv_reset : PowerInv State.reset :=
  { dark := fun _ => ⟨rfl, fun l => by rw [reset_lines]; exact Or.inl rfl⟩
    up := nofun
    on := nofun
    falling := nofun
    flying := fun l f hf => by rw [reset_lines] at hf; cases hf }

theorem levelInv_reset : LevelInv State.reset :=
  { drive := fun _ => ⟨Nat.zero_le _, Nat.le_refl 256, (by decide : 256 ≤ 4096)⟩
    results := fun k => by
      rw [show State.reset.results[k] = Result.unwritten from Vector.getElem_replicate ..]
      exact resultOk_unwritten
    ceiling := fun a h => absurd (show none = some a from h) nofun }

theorem bufferInv_reset : BufferInv State.reset :=
  { enabled := fun w => by
      rw [reset_buffers, show State.reset.windows[w] = Window.reset from Vector.getElem_replicate ..]
      exact ⟨nofun, fun h => absurd rfl h⟩
    banks := fun v w b h => by rw [reset_buffers] at h; cases h
    slots := fun v w k h => by rw [reset_buffers] at h; cases h
    once := List.nodup_nil
    queued := fun w => by rw [reset_buffers]; exact ⟨nofun, fun ⟨b, h⟩ => nomatch h⟩
    analysing := fun w b => by
      rw [reset_buffers]
      exact ⟨nofun, fun ⟨a, h, _⟩ => absurd (show none = some a from h) nofun⟩
    own := fun a h => absurd (show none = some a from h) nofun }

theorem scanInv_reset : ScanInv State.reset :=
  { pointer := nofun, idle := fun _ => ⟨rfl, rfl, rfl, rfl⟩, passed := Nat.zero_le _, held := fun _ => rfl,
    committed := fun h => absurd rfl h }

theorem ringInv_reset : RingInv State.reset :=
  { idle := fun _ => rfl
    requester := nofun
    last := fun before q after h => by
      have : ([] : List Injected) = before ++ q :: after := h
      simp at this
    loading := fun h => absurd rfl h
    tables := fun t => by cases t <;> simp [State.reset, Tables.reset, Tables.stateOf, State.load, Ring.reset] }

/-- Settles O5: each invariant, on the values of `State.reset`. -/
theorem invariantsHoldAtReset : Obligations.InvariantsHoldAtReset :=
  ⟨linkInv_reset, powerInv_reset, levelInv_reset, bufferInv_reset, scanInv_reset, ringInv_reset, Nat.zero_le _⟩

end Sys2Proof.Laws
end

section
/-! SUPPORT. The proofs about the Link Path (chapter 1): reception, the downstream slot and the offers, the link states, the
order of forwarded requests (R8), and the bounds of the queues. -/

namespace Sys2Proof.Laws

open Sys2Proof Sys2Proof.Machine Sys2Proof.Safety

theorem whenLive_live {s : State} (h : live s) (f : State → State) : s.whenLive f = f s :=
  if_neg (by rw [show s.resetAsserted = false from h]; decide)

/-! ### Reception (R1, R2) -/

theorem protocolError_eq_false_iff (s : State) (r : Request) :
    s.protocolError r = false
      ↔ s.link.credits ≠ 0 ∧ (1 ≤ r.beatCount ∧ r.beatCount ≤ 8) ∧ r.address.toNat % 32 = 0 := by
  simp [State.protocolError, and_assoc]

/-- A received request is handed on (R1). -/
theorem exec_received {s : State} {r : Request} (h : received s r) : exec (.requestReceived r) s = .next (s.receive r) := by
  obtain ⟨hl, hu, hc, h1, h8, ha⟩ := h
  have he : s.protocolError r = false := (protocolError_eq_false_iff s r).2 ⟨hc, ⟨h1, h8⟩, ha⟩
  show Host.Outcome.next (s.whenLive _) = _
  rw [whenLive_live hl, hu, he]
  rfl

theorem exec_requestReceived_down {s : State} (hl : live s) (r : Request) (h : s.link.upstream = .down) :
    exec (.requestReceived r) s = .next s := by
  show Host.Outcome.next (s.whenLive _) = _
  rw [whenLive_live hl, if_pos h]

/-- With the upstream link UP, a request that is not received is a link protocol error (R1, R15). -/
theorem exec_requestReceived_error {s : State} (hl : live s) (r : Request) (hu : s.link.upstream = .up)
    (h : ¬received s r) : exec (.requestReceived r) s = .next s.upstreamDown := by
  have he : s.protocolError r = true := by
    rw [← Bool.not_eq_false, protocolError_eq_false_iff]
    rintro ⟨hc, ⟨h1, h8⟩, ha⟩
    exact h ⟨hl, hu, hc, h1, h8, ha⟩
  show Host.Outcome.next (s.whenLive _) = _
  rw [whenLive_live hl, hu, he]
  rfl

theorem enqueue_link (r : Request) (s : State) : (s.enqueue r).link = joined s r := by
  unfold joined State.enqueue State.classesOf
  cases r.body <;> rfl

/-- Reception puts the request into the forward queue, and its beats touch the link no more (R2, R8). -/
theorem receive_link (r : Request) (s : State) : (s.receive r).link = joined s r := by
  unfold State.receive
  split
  · exact (outside_handWrites r _ 0 _ _ .link (by decide)).trans (enqueue_link r s)
  · exact (outside_handReads _ _ .link (by decide)).trans (enqueue_link r s)

/-! ### The downstream slot and the offers (R9 to R11, R154) -/

theorem candidate_forward {k : LinkPath} {f : Forwarded} {rest : List Forwarded} (hf : k.forward = f :: rest)
    (h : k.injected = [] ∨ k.waitCount < 32) : k.candidate = .forward f rest := by
  unfold LinkPath.candidate
  rw [hf]
  rcases hi : k.injected with _ | ⟨q, qs⟩
  · rfl
  · have hw : k.waitCount < 32 := h.resolve_left (by simp [hi])
    exact if_neg (Nat.not_le.2 hw)

theorem candidate_injected {k : LinkPath} {q : Injected} {rest : List Injected} (hi : k.injected = q :: rest)
    (h : k.forward = [] ∨ 32 ≤ k.waitCount) : k.candidate = .injected q rest := by
  unfold LinkPath.candidate
  rw [hi]
  rcases hf : k.forward with _ | ⟨f, fs⟩
  · rfl
  · exact if_pos (h.resolve_left (by simp [hf]))

theorem candidate_none {k : LinkPath} (hf : k.forward = []) (hi : k.injected = []) : k.candidate = .none := by
  unfold LinkPath.candidate
  rw [hf, hi]

/-- What the choice of R10 says of the two queues. -/
theorem candidate_cases (k : LinkPath) :
    (k.candidate = .none ∧ k.forward = [] ∧ k.injected = [])
    ∨ (∃ f rest, k.candidate = .forward f rest ∧ k.forward = f :: rest ∧ (k.injected = [] ∨ k.waitCount < 32))
    ∨ ∃ q rest, k.candidate = .injected q rest ∧ k.injected = q :: rest ∧ (k.forward = [] ∨ 32 ≤ k.waitCount) := by
  rcases hf : k.forward with _ | ⟨f, fs⟩ <;> rcases hi : k.injected with _ | ⟨q, qs⟩
  · exact Or.inl ⟨candidate_none hf hi, rfl, rfl⟩
  · exact Or.inr (Or.inr ⟨q, qs, candidate_injected hi (Or.inl hf), rfl, Or.inl rfl⟩)
  · exact Or.inr (Or.inl ⟨f, fs, candidate_forward hf (Or.inl hi), rfl, Or.inl rfl⟩)
  · rcases Nat.lt_or_ge k.waitCount 32 with hw | hw
    · exact Or.inr (Or.inl ⟨f, fs, candidate_forward hf (Or.inr hw), rfl, Or.inr hw⟩)
    · exact Or.inr (Or.inr ⟨q, qs, candidate_injected hi (Or.inr hw), rfl, Or.inr hw⟩)

theorem blocked_iff (k : LinkPath) (r : Request) : k.blocked r = true ↔ r.isRead = true ∧ 32 ≤ k.tracking.length := by
  rw [LinkPath.blocked, Bool.and_eq_true, decide_eq_true_eq]
  rfl

theorem exec_downstreamSend {s : State} (hl : live s) (hd : s.link.downstream = .up) :
    exec .downstreamSend s = .next s.sendNext := by
  show Host.Outcome.next (s.whenLive _) = _
  rw [whenLive_live hl, if_pos hd]

theorem exec_downstreamSend_down {s : State} (hl : live s) (hd : s.link.downstream = .down) :
    exec .downstreamSend s = .next s := by
  show Host.Outcome.next (s.whenLive _) = _
  rw [whenLive_live hl, if_neg (by rw [hd]; decide)]

theorem sendNext_none {s : State} (h : s.link.candidate = .none) : s.sendNext = s := by
  unfold State.sendNext
  rw [h]

theorem sendNext_forward {s : State} {f : Forwarded} {rest : List Forwarded} (h : s.link.candidate = .forward f rest) :
    s.sendNext
      = if f.request.isRead = true ∧ 32 ≤ s.link.tracking.length then s
        else { s with link := s.link.sendForward f rest } := by
  unfold State.sendNext
  rw [h]
  simp only [blocked_iff]

/-- The injected head leaves, and a status word write ends its command (R9, R154). -/
theorem sendNext_injected {s : State} {q : Injected} {rest : List Injected} (h : s.link.candidate = .injected q rest) :
    s.sendNext
      = if q.request.isRead = true ∧ 32 ≤ s.link.tracking.length then s
        else
          { s with
            link := s.link.sendInjected q rest
            ring :=
              match q.purpose with
              | .status _ => { s.ring with index := s.ring.index + 1, executing := none }
              | .data => s.ring
              | .fetch _ => s.ring } := by
  unfold State.sendNext
  rw [h]
  simp only [blocked_iff]
  cases q.purpose <;> rfl

theorem exec_injectedRequestOffer {s : State} (hl : live s) (hd : s.link.downstream = .up) :
    exec .injectedRequestOffer s = .next s.offerNext := by
  show Host.Outcome.next (s.whenLive _) = _
  rw [whenLive_live hl, if_pos hd]

theorem exec_injectedRequestOffer_down {s : State} (hl : live s) (hd : s.link.downstream = .down) :
    exec .injectedRequestOffer s = .next s := by
  show Host.Outcome.next (s.whenLive _) = _
  rw [whenLive_live hl, if_neg (by rw [hd]; decide)]

theorem offerNext_offers {s : State} {c : Command} {q : Injected} {rest : List Injected} (he : s.ring.executing = some c)
    (ho : c.offers = q :: rest) (hq : s.link.injected.length < 4) :
    s.offerNext
      = { s with
          link := { s.link with injected := s.link.injected ++ [q] }
          ring := { s.ring with executing := some { c with offers := rest } } } := by
  unfold State.offerNext
  simp only [he, ho]
  exact if_pos hq

theorem offerNext_idle {s : State} (h : ∀ c, s.ring.executing = some c → c.offers = [] ∨ 4 ≤ s.link.injected.length) :
    s.offerNext = s := by
  rcases he : s.ring.executing with _ | c
  · simp only [State.offerNext, he]
  · rcases ho : c.offers with _ | ⟨q, rest⟩
    · simp only [State.offerNext, he, ho]
    · have hq : ¬s.link.injected.length < Config.injectedDepth :=
        Nat.not_lt.2 ((h c he).resolve_left (by simp [ho]))
      simp only [State.offerNext, he, ho, if_neg hq]

/-- Settles O11: the candidate by the table of R10 (`candidate_forward`, `candidate_injected`), what it does when it goes
(`sendNext_forward`, `sendNext_injected`), and the next offer. -/
theorem queuesAreServed : Obligations.QueuesAreServed := by
  refine ⟨fun s hl => ⟨exec_downstreamSend_down hl, fun hf hi => ?_, fun f rest hd hf hw => ?_, fun q rest hd hi hw => ?_⟩,
    fun s c hl he => ⟨fun q rest hd ho hq => ?_, fun h => ?_⟩⟩
  · rcases hd : s.link.downstream with _ | _
    · rw [exec_downstreamSend hl hd, sendNext_none (candidate_none hf hi)]
    · exact exec_downstreamSend_down hl hd
  · rw [exec_downstreamSend hl hd, sendNext_forward (candidate_forward hf hw)]
    rfl
  · rw [exec_downstreamSend hl hd, sendNext_injected (candidate_injected hi hw)]
    rfl
  · rw [exec_injectedRequestOffer hl hd, offerNext_offers he ho hq]
  · rcases hd : s.link.downstream with _ | _
    · have hidle : c.offers = [] ∨ 4 ≤ s.link.injected.length := h.resolve_left (by simp [hd])
      rw [exec_injectedRequestOffer hl hd, offerNext_idle fun d hc => by rw [he] at hc; cases hc; exact hidle]
    · exact exec_injectedRequestOffer_down hl hd

/-! ### Link states (R15 to R18) -/

/-- The Link Path after a downstream DOWN (R17). -/
theorem downstreamDown_link (s : State) :
    s.downstreamDown.link = { s.link with downstream := .down, injected := [], waitCount := 0, tracking := [] } :=
  outside_stallRing _ _ .link (by decide)

/-- A downstream DOWN with no table being fetched: the unsent writes wait to be offered again (R155). -/
theorem stallRing_idle {s : State} (q : List Injected)
    (h : ∀ l b crc kept, s.load = some l → l.phase ≠ .fetching b crc kept) :
    s.stallRing q
      = { s with
          ring :=
            { s.ring with
              executing :=
                s.ring.executing.map fun c =>
                  { c with offers := if c.load = none then q.filter Injected.isWrite ++ c.offers else c.offers } } } := by
  have same : ∀ o, s.ring.executing = o → { s with ring := { s.ring with executing := o } } = s := by
    rintro o rfl
    rfl
  rcases he : s.ring.executing with _ | c
  · simp only [State.stallRing, he, Option.map_none]
    exact (same none he).symm
  · rcases hc : c.load with _ | l
    · simp only [State.stallRing, he, hc, Option.map_some, if_true]
    · have hl : s.load = some l := by simp only [State.load, he, hc]
      rcases hp : l.phase with _ | ⟨b, crc, kept⟩
      · simp only [State.stallRing, he, hc, hp, Option.map_some, reduceCtorEq, if_false]
        rw [← hc]
        exact (same (some c) he).symm
      · exact absurd hp (h l b crc kept hl)

/-- Settles O6: the three simple changes are record updates, and the fourth leaves a ring that is not fetching with its
unsent writes to offer again (`stallRing_idle`). -/
theorem linkStateChanges : Obligations.LinkStateChanges := by
  intro s hl
  have ends (f : State → State) : (Host.Outcome.next (s.whenLive f) : Out) = .next (f s) :=
    congrArg Host.Outcome.next (whenLive_live hl f)
  refine ⟨ends _, ends _, ends _, fun h => ?_⟩
  refine (ends State.downstreamDown).trans (congrArg Host.Outcome.next ?_)
  unfold State.downstreamDown
  exact stallRing_idle s.link.injected h

/-- Settles O8: a request is received or an error (`exec_requestReceived_error`), and a return with nothing outstanding is
handled as the link's going DOWN. -/
theorem protocolErrorsTakeTheLinkDown : Obligations.ProtocolErrorsTakeTheLinkDown := by
  intro s hl
  refine ⟨fun r => ⟨exec_requestReceived_down hl r, exec_requestReceived_error hl r⟩, fun data => ⟨fun hd => ?_, fun hd ht => ?_⟩⟩
  · show Host.Outcome.next (s.whenLive _) = _
    rw [whenLive_live hl, if_pos hd]
  · show Host.Outcome.next (s.whenLive _) = Host.Outcome.next (s.whenLive _)
    rw [whenLive_live hl, whenLive_live hl, if_neg (by rw [hd]; decide), ht]

/-! ### What every command does to the Link Path -/

/-- The Link Path after a return beat of the oldest entry: the entry counts it, and at most the upstream port carries it
(R12, R13). -/
theorem routeReturn_link (t : Tracked) (rest : List Tracked) (data : Beat) (s : State) :
    ∃ up, (s.routeReturn t rest data).link = { s.link with tracking := countReturn t rest, sentUp := up } := by
  unfold State.routeReturn
  dsimp only
  split
  · unfold State.returnUpstream
    split
    · exact ⟨_, outside_setFlagIf _ _ _ .link (by decide)⟩
    · exact ⟨s.link.sentUp, rfl⟩
  · exact ⟨s.link.sentUp, outside_fetchReturn _ _ _ .link (by decide)⟩

/-- The ways in which a command other than a reset and a received request changes the Link Path. -/
inductive LinkChange (k : LinkPath) : LinkPath → Prop where
  | same : LinkChange k k
  | forwarded (f : Forwarded) (rest : List Forwarded) (hf : k.forward = f :: rest)
      (hw : k.injected = [] ∨ k.waitCount < 32) (hb : ¬(f.request.isRead = true ∧ 32 ≤ k.tracking.length)) :
      LinkChange k (k.sendForward f rest)
  | injected (q : Injected) (rest : List Injected) (hi : k.injected = q :: rest)
      (hb : ¬(q.request.isRead = true ∧ 32 ≤ k.tracking.length)) : LinkChange k (k.sendInjected q rest)
  | offered (q : Injected) (h : k.injected.length < 4) : LinkChange k { k with injected := k.injected ++ [q] }
  | returned (t : Tracked) (rest : List Tracked) (up : List Beat) (ht : k.tracking = t :: rest) :
      LinkChange k { k with tracking := countReturn t rest, sentUp := up }
  | upstreamDown : LinkChange k { k with upstream := .down, credits := 0 }
  | upstreamUp : LinkChange k { k with upstream := .up, credits := 16 - k.forward.length }
  | downstreamDown : LinkChange k { k with downstream := .down, injected := [], waitCount := 0, tracking := [] }
  | downstreamUp : LinkChange k { k with downstream := .up }

theorem linkChange_sendNext (s : State) : LinkChange s.link s.sendNext.link := by
  rcases candidate_cases s.link with ⟨hc, -, -⟩ | ⟨f, rest, hc, hf, hw⟩ | ⟨q, rest, hc, hi, -⟩
  · rw [sendNext_none hc]
    exact .same
  · rw [sendNext_forward hc]
    split
    · exact .same
    · exact .forwarded f rest hf hw ‹_›
  · rw [sendNext_injected hc]
    split
    · exact .same
    · exact .injected q rest hi ‹_›

theorem linkChange_offerNext (s : State) : LinkChange s.link s.offerNext.link := by
  by_cases h : ∀ c, s.ring.executing = some c → c.offers = [] ∨ 4 ≤ s.link.injected.length
  · rw [offerNext_idle h]
    exact .same
  · push Not at h
    obtain ⟨c, he, hne, hq⟩ := h
    obtain ⟨q, rest, ho⟩ := List.exists_cons_of_ne_nil hne
    rw [offerNext_offers he ho hq]
    exact .offered q hq

theorem exec_linkChange {c : Instr} {s t : State} (hc : c ≠ .resetAsserted)
    (hr : ∀ r, c = .requestReceived r → ¬received s r) (h : exec c s = .next t) : LinkChange s.link t.link := by
  have whenLive {f : State → State} (hf : live s → LinkChange s.link (f s).link) (e : (.next (s.whenLive f) : Out) = .next t) :
      LinkChange s.link t.link := by
    cases e
    by_cases hl : live s
    · rw [whenLive_live hl]
      exact hf hl
    · rw [State.whenLive, if_pos (by simpa [live] using hl)]
      exact .same
  have kept (hn : Piece.link ∉ touched c) : LinkChange s.link t.link := by
    rw [show t.link = s.link from exec_outside h .link hn]
    exact .same
  cases c
  case requestReceived r =>
    refine whenLive (fun hl => ?_) h
    split
    · exact .same
    · have hu : s.link.upstream = .up := by cases hu : s.link.upstream <;> simp_all
      split
      · exact .upstreamDown
      · rename_i he
        rw [Bool.not_eq_true, protocolError_eq_false_iff] at he
        exact absurd ⟨hl, hu, he.1, he.2.1.1, he.2.1.2, he.2.2⟩ (hr r rfl)
  case downstreamSend =>
    refine whenLive (fun _ => ?_) h
    split
    · exact linkChange_sendNext s
    · exact .same
  case returnBeatReceived data =>
    refine whenLive (fun _ => ?_) h
    split
    · exact .same
    · split
      · rw [downstreamDown_link]
        exact .downstreamDown
      · rename_i q rest hq
        obtain ⟨up, hup⟩ := routeReturn_link q rest data s
        rw [hup]
        exact .returned q rest up hq
  case upstreamLinkDown => exact whenLive (fun _ => .upstreamDown) h
  case upstreamLinkUp => exact whenLive (fun _ => .upstreamUp) h
  case downstreamLinkDown =>
    refine whenLive (fun _ => ?_) h
    rw [downstreamDown_link]
    exact .downstreamDown
  case downstreamLinkUp => exact whenLive (fun _ => .downstreamUp) h
  case resetAsserted => exact absurd rfl hc
  case injectedRequestOffer =>
    refine whenLive (fun _ => ?_) h
    split
    · exact linkChange_offerNext s
    · exact .same
  all_goals exact kept (by simp [touched])

/-! ### The law of R8 -/

theorem linkChange_upstreamRequests {k k' : LinkPath} (h : LinkChange k k') : upstreamRequests k' = upstreamRequests k := by
  cases h
  case forwarded f rest hf hw hb => simp [upstreamRequests, LinkPath.sendForward, hf]
  case injected q rest hi hb => simp [upstreamRequests, LinkPath.sendInjected]
  all_goals rfl

theorem linkChange_sentDown {k k' : LinkPath} (h : LinkChange k k') : ∃ more, k'.sentDown = k.sentDown ++ more := by
  cases h
  case forwarded f rest hf hw hb => exact ⟨_, rfl⟩
  case injected q rest hi hb => exact ⟨_, rfl⟩
  all_goals exact ⟨[], (List.append_nil _).symm⟩

theorem exec_received_link {s t : State} {r : Request} (hr : received s r) (h : exec (.requestReceived r) s = .next t) :
    t.link = joined s r := by
  rw [exec_received hr] at h
  cases h
  exact receive_link r s

/-- Settles O10: a received request joins the forward queue at its tail, and every other change of the Link Path moves a
request from the forward queue to the port at most (`linkChange_upstreamRequests`). -/
theorem requestsAreForwardedInOrder : Obligations.RequestsAreForwardedInOrder := by
  intro c s t hc h
  refine ⟨fun r hcr hr => ?_, fun hr => linkChange_upstreamRequests (exec_linkChange hc hr h), ?_⟩
  · subst hcr
    rw [exec_received_link hr h]
    simp [upstreamRequests, joined]
  · by_cases hr : ∃ r, c = .requestReceived r ∧ received s r
    · obtain ⟨r, rfl, hr⟩ := hr
      rw [exec_received_link hr h]
      exact ⟨[], (List.append_nil _).symm⟩
    · exact linkChange_sentDown (exec_linkChange hc (fun r e h => hr ⟨r, e, h⟩) h)

/-! ### The bounds of the Link Path (R2, R8 to R11) -/

theorem linkInv_joined {s : State} {r : Request} (hr : received s r) (h : LinkInv s.link) : LinkInv (joined s r) := by
  obtain ⟨-, hu, hc, -⟩ := hr
  have hsum := h.up hu
  have hlen : (joined s r).forward.length = s.link.forward.length + 1 := List.length_append
  refine { up := fun _ => ?_, down := fun hd => ?_, forward := ?_, injected := h.injected, tracking := h.tracking, wait := h.wait,
           idle := h.idle }
  · rw [hlen]
    show s.link.credits - 1 + _ = 16
    omega
  · exact absurd (hu.symm.trans hd) (by decide)
  · omega

theorem track_length_le {k : LinkPath} {r : Request} (o : Origin) (ht : k.tracking.length ≤ 32)
    (hb : ¬(r.isRead = true ∧ 32 ≤ k.tracking.length)) : (k.track r o).length ≤ 32 := by
  unfold LinkPath.track
  split
  · next hr =>
    have : k.tracking.length < 32 := Nat.lt_of_not_le fun hle => hb ⟨hr, hle⟩
    simpa using this
  · exact ht

theorem countReturn_length_le (t : Tracked) (rest : List Tracked) : (countReturn t rest).length ≤ (t :: rest).length := by
  unfold countReturn
  split <;> simp

theorem linkInv_linkChange {k k' : LinkPath} (hk : LinkChange k k') (h : LinkInv k) : LinkInv k' := by
  obtain ⟨up, down, forward, injected, tracking, wait, idle⟩ := h
  cases hk
  case same => exact ⟨up, down, forward, injected, tracking, wait, idle⟩
  case forwarded f rest hf hw hb =>
    rw [hf, List.length_cons] at up forward
    refine ⟨fun hu => ?_, fun hd => ?_, Nat.le_of_succ_le forward, injected, track_length_le _ tracking hb, ?_, fun hi => ?_⟩
    · have hu' : k.upstream = .up := hu
      have := up hu'
      show (if k.upstream = .up then k.credits + 1 else k.credits) + rest.length = 16
      rw [if_pos hu']
      omega
    · have hd' : k.upstream = .down := hd
      show (if k.upstream = .up then k.credits + 1 else k.credits) = 0
      rw [hd', if_neg (by decide)]
      exact down hd'
    · show (if k.injected = [] then k.waitCount else k.waitCount + 1) ≤ 32
      split
      · exact wait
      · next hi => exact hw.resolve_left hi
    · have hi' : k.injected = [] := hi
      show (if k.injected = [] then k.waitCount else k.waitCount + 1) = 0
      rw [if_pos hi']
      exact idle hi'
  case injected q rest hi hb =>
    rw [hi, List.length_cons] at injected
    exact ⟨up, down, forward, Nat.le_of_succ_le injected, track_length_le _ tracking hb, Nat.zero_le _, fun _ => rfl⟩
  case offered q hq =>
    refine ⟨up, down, forward, ?_, tracking, wait, fun hi => ?_⟩
    · show (k.injected ++ [q]).length ≤ 4
      simpa using hq
    · exact absurd hi (by simp)
  case returned t rest up' ht =>
    exact ⟨up, down, forward, injected, (countReturn_length_le t rest).trans (ht ▸ tracking), wait, idle⟩
  case upstreamDown => exact ⟨nofun, fun _ => rfl, forward, injected, tracking, wait, idle⟩
  case upstreamUp =>
    exact ⟨fun _ => Nat.sub_add_cancel forward, nofun, forward, injected, tracking, wait, idle⟩
  case downstreamDown => exact ⟨up, down, forward, Nat.zero_le _, Nat.zero_le _, Nat.zero_le _, fun _ => rfl⟩
  case downstreamUp => exact ⟨up, down, forward, injected, tracking, wait, idle⟩

/-- Every command keeps the bounds of the Link Path. -/
theorem linkInv_exec {c : Instr} {s t : State} (hs : LinkInv s.link) (h : exec c s = .next t) : LinkInv t.link := by
  by_cases hc : c = .resetAsserted
  · subst hc
    cases h
    exact linkInv_reset
  · by_cases hr : ∃ r, c = .requestReceived r ∧ received s r
    · obtain ⟨r, rfl, hr⟩ := hr
      rw [exec_received_link hr h]
      exact linkInv_joined hr hs
    · exact linkInv_linkChange (exec_linkChange hc (fun r e h => hr ⟨r, e, h⟩) h) hs

end Sys2Proof.Laws
end

section
/-! SUPPORT. The bound of the event queue (R167): every operation that adds records keeps it, and so every command does. -/

namespace Sys2Proof.Laws

-- Each proof may wait for an earlier one; run one after another they need no thread each.
set_option Elab.async false

open Sys2Proof Sys2Proof.Machine Sys2Proof.Safety

/-! ### Operations that keep the bound -/

/-- The 32 records of R167 are not exceeded in `t` if they are not in `s`. -/
def EventsBounded (s t : State) : Prop := s.events.length ≤ 32 → t.events.length ≤ 32

theorem eventsBounded_refl (s : State) : EventsBounded s s := id

theorem eventsBounded_trans {s t u : State} (h : EventsBounded s t) (k : EventsBounded t u) : EventsBounded s u := k ∘ h

theorem eventsBounded_of_outside {ps : List Piece} {s t : State} (h : Outside ps s t)
    (hn : Piece.events ∉ ps := by decide) : EventsBounded s t := fun hs => by
  rw [show t.events = s.events from h .events hn]
  exact hs

/-- An operation that adds no record, after others. -/
theorem eventsBounded_quiet {ps : List Piece} {s t u : State} (h : EventsBounded s t) (k : Outside ps t u)
    (hn : Piece.events ∉ ps := by decide) : EventsBounded s u :=
  eventsBounded_trans h (eventsBounded_of_outside k hn)

theorem eventsBounded_ite {c : Prop} [Decidable c] {s t u : State} (h : EventsBounded s t) (k : EventsBounded s u) :
    EventsBounded s (if c then t else u) := by
  split
  · exact h
  · exact k

theorem eventsBounded_foldl {α : Type} {f : State → α → State} (h : ∀ t a, EventsBounded t (f t a)) (l : List α) (s : State) :
    EventsBounded s (l.foldl f s) := by
  induction l generalizing s with
  | nil => exact eventsBounded_refl s
  | cons a rest ih => exact eventsBounded_trans (h s a) (ih (f s a))

/-- A new record discards the oldest of a full queue (R167). -/
theorem eventsBounded_addEvent (k : EventKind) (x : Subject) (d : Nat) (s : State) : EventsBounded s (s.addEvent k x d) :=
  fun _ => by
    rw [events_addEvent, length_eventsAfter]
    omega

/-- One more record, after others. -/
theorem eventsBounded_event {s t : State} (h : EventsBounded s t) (k : EventKind) (x : Subject) (d : Nat) :
    EventsBounded s (t.addEvent k x d) :=
  eventsBounded_trans h (eventsBounded_addEvent k x d t)

/-! ### Sequencing and protection (chapter 8) -/

theorem eventsBounded_setBacklight (b : Backlight) (s : State) : EventsBounded s (s.setBacklight b) :=
  eventsBounded_ite (eventsBounded_refl s) (eventsBounded_event (eventsBounded_of_outside (outside_protection s _)) _ _ _)

theorem eventsBounded_powerUpBegin (s : State) : EventsBounded s s.powerUpBegin := by
  unfold State.powerUpBegin
  have begun := eventsBounded_setBacklight .poweringUp s
  dsimp only
  split
  · exact eventsBounded_trans (eventsBounded_quiet begun (outside_setSequencer _ _ _)) (eventsBounded_setBacklight _ _)
  · exact eventsBounded_quiet (eventsBounded_quiet begun (outside_setSequencer _ _ _)) (outside_startOrder _ _)

theorem eventsBounded_powerDownEnd (s : State) : EventsBounded s s.powerDownEnd :=
  eventsBounded_quiet
    (eventsBounded_trans (eventsBounded_of_outside (outside_setSequencer _ _ s)) (eventsBounded_setBacklight _ _))
    (outside_settleCeiling _ _)

theorem eventsBounded_dropOne (s : State) : EventsBounded s s.dropOne := by
  unfold State.dropOne
  split
  · exact eventsBounded_powerDownEnd s
  · have stopped := fun l => eventsBounded_of_outside (outside_stopOrder l s)
    dsimp only
    split
    · exact eventsBounded_trans (stopped _) (eventsBounded_powerDownEnd _)
    · exact eventsBounded_quiet (stopped _) (outside_setSequencer _ _ _)

theorem eventsBounded_powerDownTest (s : State) : EventsBounded s s.powerDownTest := by
  unfold State.powerDownTest
  split
  · exact eventsBounded_ite (eventsBounded_dropOne s) (eventsBounded_refl s)
  · exact eventsBounded_ite (eventsBounded_powerDownEnd s) (eventsBounded_refl s)
  · exact eventsBounded_refl s
  · exact eventsBounded_refl s

theorem eventsBounded_powerDownBegin (s : State) : EventsBounded s s.powerDownBegin := by
  unfold State.powerDownBegin
  refine eventsBounded_trans ?_ (eventsBounded_powerDownTest _)
  refine eventsBounded_quiet ?_ (outside_forLines outside_stopUnlessRunning _)
  refine eventsBounded_quiet ?_ (outside_settleCeiling _ _)
  exact eventsBounded_quiet (eventsBounded_setBacklight _ s) (outside_setSequencer _ _ _)

theorem eventsBounded_releaseTrip (s : State) : EventsBounded s s.releaseTrip := by
  unfold State.releaseTrip
  split
  · exact eventsBounded_refl s
  · exact eventsBounded_event (eventsBounded_of_outside (outside_protection s _)) _ _ _

theorem eventsBounded_releaseTripOf (m : ReleaseMode) (s : State) : EventsBounded s (s.releaseTripOf m) := by
  unfold State.releaseTripOf
  split
  · exact eventsBounded_refl s
  · exact eventsBounded_ite (eventsBounded_releaseTrip s) (eventsBounded_refl s)

theorem eventsBounded_setThermal (x : Thermal) (s : State) : EventsBounded s (s.setThermal x) :=
  eventsBounded_ite (eventsBounded_refl s) (eventsBounded_event (eventsBounded_of_outside (outside_protection s _)) _ _ _)

theorem eventsBounded_powerUpOrOff (s : State) : EventsBounded s s.powerUpOrOff :=
  eventsBounded_ite (eventsBounded_powerUpBegin s)
    (eventsBounded_trans (eventsBounded_of_outside (outside_setTarget false s)) (eventsBounded_setBacklight _ _))

theorem eventsBounded_enterShutdown (s : State) : EventsBounded s s.enterShutdown := by
  have entered (x : Protection) (b : Backlight) : EventsBounded s
      (State.setBacklight b { (s.setThermal .shutdown).setCoolDown 0 with protection := x }) :=
    eventsBounded_trans
      (eventsBounded_quiet (eventsBounded_quiet (eventsBounded_setThermal .shutdown s) (outside_setCoolDown 0 _))
        (outside_protection ((s.setThermal .shutdown).setCoolDown 0) x))
      (eventsBounded_setBacklight b _)
  refine eventsBounded_ite ?_ (entered _ _)
  exact eventsBounded_quiet (eventsBounded_quiet (entered _ _) (outside_setSequencer _ _ _))
    (outside_forLines outside_stopOrder _)

theorem eventsBounded_leaveShutdown (s : State) : EventsBounded s s.leaveShutdown := by
  have left (x : Thermal) : EventsBounded s ((s.setThermal x).setCoolDown 0) :=
    eventsBounded_quiet (eventsBounded_setThermal x s) (outside_setCoolDown 0 _)
  unfold State.leaveShutdown
  dsimp only
  refine eventsBounded_ite (eventsBounded_ite ?_ ?_) (left _)
  · exact eventsBounded_trans (left _) (eventsBounded_powerUpOrOff _)
  · exact eventsBounded_trans (left _) (eventsBounded_setBacklight _ _)

theorem eventsBounded_evalThermal (s : State) : EventsBounded s s.evalThermal := by
  have counted (n : Nat) : EventsBounded s (s.setCoolDown n) := eventsBounded_of_outside (outside_setCoolDown n s)
  unfold State.evalThermal
  split
  · exact eventsBounded_ite (eventsBounded_ite (eventsBounded_leaveShutdown s) (counted _)) (counted 0)
  all_goals
    split
    · exact eventsBounded_enterShutdown s
    all_goals exact eventsBounded_setThermal _ s

theorem eventsBounded_evalSupply (s : State) : EventsBounded s s.evalSupply := by
  refine eventsBounded_ite (eventsBounded_refl s) ?_
  exact eventsBounded_quiet (eventsBounded_event (eventsBounded_of_outside (outside_protection s _)) _ _ _)
    (outside_setFlagIf _ _ _)

theorem eventsBounded_sample (c : SampleSet) (s : State) : EventsBounded s (s.sample c) := by
  refine eventsBounded_quiet ?_ (outside_settleCeiling _ _)
  refine eventsBounded_trans ?_ (eventsBounded_evalSupply _)
  refine eventsBounded_trans ?_ (eventsBounded_evalThermal _)
  exact eventsBounded_quiet (eventsBounded_of_outside (outside_tickMs s)) (outside_protection s.tickMs _)

theorem eventsBounded_ocSample (asserted : Bool) (s : State) : EventsBounded s (s.ocSample asserted) := by
  have ticked := eventsBounded_of_outside (outside_tickUs s)
  refine eventsBounded_ite ?_ (eventsBounded_quiet ticked (outside_protection s.tickUs _))
  refine eventsBounded_event (eventsBounded_quiet ?_ (outside_setFlag _ _)) _ _ _
  exact eventsBounded_quiet ticked (outside_protection s.tickUs _)

theorem eventsBounded_clearLatchedOff (s : State) : EventsBounded s s.clearLatchedOff := by
  have cleared : EventsBounded s { s with protection := { s.protection with shutdownHistory := [] } } :=
    eventsBounded_of_outside (outside_protection s _)
  refine eventsBounded_ite (eventsBounded_trans cleared (eventsBounded_setBacklight _ _)) (eventsBounded_ite ?_ ?_)
  · exact eventsBounded_trans cleared (eventsBounded_setBacklight _ _)
  · exact eventsBounded_trans cleared (eventsBounded_powerUpOrOff _)

theorem eventsBounded_clearProtection (s : State) : EventsBounded s s.clearProtection.1 := by
  have unlatched : EventsBounded s (if (s.protection.backlight == .latchedOff) = true then s.clearLatchedOff else s) :=
    eventsBounded_ite (eventsBounded_clearLatchedOff s) (eventsBounded_refl s)
  unfold State.clearProtection
  dsimp only
  generalize (if (s.protection.backlight == .latchedOff) = true then s.clearLatchedOff else s) = t at unlatched ⊢
  have released : EventsBounded s (if s.protection.trip.isSome = true then t.releaseTrip else t) :=
    eventsBounded_ite (eventsBounded_trans unlatched (eventsBounded_releaseTrip t)) unlatched
  generalize (if s.protection.trip.isSome = true then t.releaseTrip else t) = u at released ⊢
  exact eventsBounded_ite (eventsBounded_quiet released (outside_protection u _)) released

theorem eventsBounded_backlightOff (s : State) : EventsBounded s s.backlightOff := by
  have targeted : EventsBounded s (s.setTarget false) := eventsBounded_of_outside (outside_setTarget false s)
  unfold State.backlightOff
  dsimp only
  split
  case h_2 | h_3 => exact eventsBounded_trans targeted (eventsBounded_powerDownBegin _)
  case h_5 => exact eventsBounded_trans targeted (eventsBounded_setBacklight _ _)
  all_goals exact targeted

/-! ### Scans, analyses and lines (chapters 4, 5 and 7) -/

theorem eventsBounded_leaveFallback (w : WindowNo) (k : SlotNo) (s : State) : EventsBounded s (s.leaveFallback w k) := by
  unfold State.leaveFallback
  split
  · exact eventsBounded_refl s
  · exact eventsBounded_event (eventsBounded_of_outside (outside_scan s _)) _ _ _

theorem eventsBounded_commitOrHold (w : WindowNo) (s : State) : EventsBounded s (s.commitOrHold w) := by
  unfold State.commitOrHold
  split
  · next k _ =>
    refine eventsBounded_trans ?_ (eventsBounded_leaveFallback w k _)
    exact eventsBounded_quiet (eventsBounded_of_outside (outside_commitRows k 0 s.scan.passed s))
      (outside_scan (s.commitRows k 0 s.scan.passed) _)
  · exact eventsBounded_quiet (eventsBounded_of_outside (outside_setFlag .hold s)) (outside_setFlagIf _ _ _)

theorem eventsBounded_scanBeat (w : WindowNo) (y : Nat) (s : State) : EventsBounded s (s.scanBeat w y) := by
  refine eventsBounded_ite ?_
    (eventsBounded_ite (eventsBounded_of_outside (outside_advance w y s)) (eventsBounded_refl s))
  refine eventsBounded_trans ?_ (eventsBounded_releaseTripOf _ _)
  refine eventsBounded_quiet ?_ (outside_restartSupervision _)
  refine eventsBounded_trans ?_ (eventsBounded_commitOrHold w _)
  exact eventsBounded_quiet (eventsBounded_of_outside (outside_flushScan s)) (outside_replaceScan w y _)

theorem eventsBounded_receive (r : Request) (s : State) : EventsBounded s (s.receive r) := by
  have queued := eventsBounded_of_outside (outside_enqueue r s)
  unfold State.receive
  split
  · exact eventsBounded_quiet queued (outside_handWrites r _ _ _ _)
  · refine eventsBounded_trans queued (eventsBounded_foldl (fun t c => ?_) _ _)
    unfold State.handRead
    split
    · exact eventsBounded_ite (eventsBounded_scanBeat _ _ t) (eventsBounded_refl t)
    · exact eventsBounded_refl t

theorem eventsBounded_lateJoin (w : WindowNo) (k : SlotNo) (s : State) : EventsBounded s (s.lateJoin w k) := by
  refine eventsBounded_trans ?_ (eventsBounded_leaveFallback w k _)
  exact eventsBounded_quiet
    (eventsBounded_quiet (eventsBounded_of_outside (outside_scan s { s.scan with result := some k }))
      (outside_commitRows k 0 s.scan.passed _))
    (outside_scan (State.commitRows k 0 s.scan.passed { s with scan := { s.scan with result := some k } }) _)

theorem eventsBounded_completeAnalysis (a : Analysis) (s : State) : EventsBounded s (s.completeAnalysis a) := by
  unfold State.completeAnalysis
  dsimp only
  have written (r : Vector Result 5) (h : History) : EventsBounded s { s with results := r, history := h } := id
  have ready := eventsBounded_quiet (eventsBounded_quiet (eventsBounded_quiet
    (written (s.results.set a.slot (analyse s.grid s.banks[a.bank] a).result) (analyse s.grid s.banks[a.bank] a).history)
    (outside_setFlagIf (analyse s.grid s.banks[a.bank] a).result.budgetLimited .budgetLimited _))
    (outside_setFlagIf (analyse s.grid s.banks[a.bank] a).result.boostLimited .boostLimited _)) (outside_abortAnalysis _)
  refine eventsBounded_trans ready (eventsBounded_ite ?_ ?_)
  · exact eventsBounded_trans (eventsBounded_of_outside (outside_setBuffer _ _ _)) (eventsBounded_lateJoin _ _ _)
  · exact eventsBounded_of_outside (outside_setBuffer _ _ _)

theorem eventsBounded_superviseExpire (s : State) : EventsBounded s s.superviseExpire := by
  have stopped := eventsBounded_of_outside (outside_stopSupervision s)
  unfold State.superviseExpire
  dsimp only
  split
  · refine eventsBounded_quiet (eventsBounded_event ?_ _ _ _) (outside_setFlag _ _)
    refine eventsBounded_quiet ?_ (outside_foldl (fun t _ => outside_writeDrive _ _ t) _ _)
    exact eventsBounded_quiet (eventsBounded_quiet stopped (outside_endScan _)) (outside_scan s.stopSupervision.endScan _)
  · exact eventsBounded_quiet stopped (outside_endScan _)

theorem eventsBounded_faultLine (l : LineNo) (s : State) : EventsBounded s (s.faultLine l) := by
  have told (f : Line → Line) (k : EventKind) (d : Nat) : EventsBounded s ((s.modifyLine l f).addEvent k (.line l) d) :=
    eventsBounded_event (eventsBounded_of_outside (outside_modifyLine l f s)) _ _ _
  have stopped {t : State} (h : EventsBounded s t) :
      EventsBounded s (if t.protection.backlight = .poweringDown then t.stopOrder l else t) :=
    eventsBounded_ite (eventsBounded_quiet h (outside_stopOrder l t)) h
  refine eventsBounded_trans ?_ (eventsBounded_powerDownTest _)
  dsimp only
  split
  · exact stopped (told _ _ _)
  · exact stopped (told _ _ _)

theorem eventsBounded_frameFails (l : LineNo) (f : Frame) (s : State) : EventsBounded s (s.frameFails l f) := by
  have flagged := eventsBounded_of_outside (outside_setFlag .lineError s)
  exact eventsBounded_ite (eventsBounded_trans flagged (eventsBounded_faultLine l _))
    (eventsBounded_quiet flagged (outside_modifyLine l _ _))

theorem eventsBounded_testChannel (l : LineNo) (p k : Nat) (kind : FaultKind) (reported : Bool) (s : State) :
    EventsBounded s (s.testChannel l p k kind reported) := by
  have suspected (bit : Nat) (on : Bool) := eventsBounded_of_outside (outside_setSuspect l kind bit on s)
  unfold State.testChannel
  split
  · exact eventsBounded_refl s
  · refine eventsBounded_ite (eventsBounded_refl s) ?_
    dsimp only
    split
    · exact suspected _ _
    · exact eventsBounded_quiet (eventsBounded_event (eventsBounded_quiet (suspected _ _) (outside_markFault _ _ _)) _ _ _)
        (outside_modifyLine l _ _)
    · exact suspected _ _
    · exact eventsBounded_refl s

theorem eventsBounded_testHot (l : LineNo) (p : Nat) (reported : Bool) (s : State) :
    EventsBounded s (s.testHot l p reported) := by
  have marked (f : Line → Line) : EventsBounded s ((s.modifyLine l f).markChannels l (channelsAt p)) :=
    eventsBounded_quiet (eventsBounded_of_outside (outside_modifyLine l f s)) (outside_markChannels _ _ _)
  unfold State.testHot
  split
  · exact eventsBounded_event (marked _) _ _ _
  · exact marked _
  · exact eventsBounded_refl s
  · exact eventsBounded_refl s

theorem eventsBounded_actOnPoll (l : LineNo) (bytes : List Byte) (s : State) : EventsBounded s (s.actOnPoll l bytes) := by
  refine eventsBounded_trans (eventsBounded_trans ?_ (eventsBounded_foldl (fun t p => ?_) _ _))
    (eventsBounded_foldl (fun t p => ?_) _ _)
  · refine eventsBounded_foldl (fun t p => eventsBounded_foldl (fun u k => ?_) _ t) _ s
    exact eventsBounded_trans (eventsBounded_testChannel _ _ _ _ _ u) (eventsBounded_testChannel _ _ _ _ _ _)
  · exact eventsBounded_testHot _ _ _ t
  · exact eventsBounded_of_outside (outside_testFrameError _ _ _ t)

theorem eventsBounded_frameSucceeds (l : LineNo) (f : Frame) (bytes : List Byte) (s : State) :
    EventsBounded s (s.frameSucceeds l f bytes) := by
  have freed (g : Line → Line) := eventsBounded_of_outside (outside_modifyLine l g s)
  unfold State.frameSucceeds
  dsimp only
  split
  · exact eventsBounded_ite (eventsBounded_event (eventsBounded_quiet (freed _) (outside_modifyLine l _ _)) _ _ _) (freed _)
  · exact freed _
  · exact eventsBounded_trans (eventsBounded_quiet (freed _) (outside_modifyLine l _ _)) (eventsBounded_powerDownTest _)
  · exact eventsBounded_trans (freed _) (eventsBounded_actOnPoll l bytes _)

theorem eventsBounded_lineStarts (l : LineNo) (s : State) : EventsBounded s (s.lineStarts l) := by
  have started (g : Line → Line) := eventsBounded_of_outside (outside_modifyLine l g s)
  unfold State.lineStarts
  dsimp only
  split
  · exact eventsBounded_ite
      (eventsBounded_trans (eventsBounded_quiet (started _) (outside_setSequencer _ _ _)) (eventsBounded_setBacklight _ _))
      (started _)
  all_goals exact started _

/-! ### Tables and returns (chapter 9) -/

theorem eventsBounded_failLoad (id : TableId) (a : Answer) (s : State) : EventsBounded s (s.failLoad id a) :=
  eventsBounded_quiet (eventsBounded_event (eventsBounded_of_outside (outside_setTableState _ _ s)) _ _ _)
    (outside_answer _ _ _)

theorem eventsBounded_passLoad (l : Load) (s : State) : EventsBounded s (s.passLoad l) :=
  eventsBounded_quiet (eventsBounded_of_outside (outside_setTableState _ _ s)) (outside_answer _ _ _)

theorem eventsBounded_endLoad (l : Load) (crc : BitVec 16) (s : State) : EventsBounded s (s.endLoad l crc) := by
  refine eventsBounded_ite (eventsBounded_ite ?_ (eventsBounded_passLoad l s)) (eventsBounded_failLoad _ _ s)
  split
  · exact eventsBounded_failLoad _ _ s
  · exact eventsBounded_passLoad l s

theorem eventsBounded_fetchReturn (p : Purpose) (data : Beat) (s : State) : EventsBounded s (s.fetchReturn p data) := by
  unfold State.fetchReturn State.fetchBeat
  have stored (x : Tables) : EventsBounded s { s with tables := x } := id
  split
  · split
    · exact eventsBounded_refl s
    · split
      · exact eventsBounded_refl s
      · split
        · exact eventsBounded_refl s
        · refine eventsBounded_ite (eventsBounded_ite ?_ ?_) (eventsBounded_refl s)
          · exact eventsBounded_trans (stored _) (eventsBounded_endLoad _ _ _)
          · exact eventsBounded_quiet (stored _) (outside_setLoad _ _ _)
  · exact eventsBounded_refl s
  · exact eventsBounded_refl s

theorem eventsBounded_stallRing (q : List Injected) (s : State) : EventsBounded s (s.stallRing q) := by
  unfold State.stallRing
  split
  · exact eventsBounded_refl _
  · split
    · split
      · exact eventsBounded_failLoad _ _ _
      · exact eventsBounded_refl _
    · exact eventsBounded_refl _

theorem eventsBounded_downstreamDown (s : State) : EventsBounded s s.downstreamDown :=
  fun hs => eventsBounded_stallRing s.link.injected _ hs

theorem eventsBounded_routeReturn (t : Tracked) (rest : List Tracked) (data : Beat) (s : State) :
    EventsBounded s (s.routeReturn t rest data) := by
  have counted (x : LinkPath) : EventsBounded s { s with link := x } := id
  unfold State.routeReturn
  dsimp only
  split
  · exact eventsBounded_quiet (counted _) (outside_returnUpstream _ data _)
  · exact eventsBounded_trans (counted _) (eventsBounded_fetchReturn _ data _)

/-! ### Every command keeps the bound -/

theorem eventsBounded_whenLive {f : State → State} (h : ∀ s, EventsBounded s (f s)) (s : State) :
    EventsBounded s (s.whenLive f) :=
  eventsBounded_ite (eventsBounded_refl s) (h s)

theorem eventsBounded_answered {s t : State} (h : EventsBounded s t) (data : List Injected) (a : Answer) :
    EventsBounded s (t.answer data a) :=
  eventsBounded_quiet h (outside_answer data a t)

theorem eventsBounded_runCommand (r : Row) {body : BitVec 1024 → State → State} (h : ∀ snap t, EventsBounded t (body snap t))
    (s : State) : EventsBounded s (s.runCommand r body) := by
  have begun (snap : BitVec 1024) := eventsBounded_of_outside (outside_beginCommand snap s)
  unfold State.runCommand
  split
  · exact eventsBounded_refl s
  · refine eventsBounded_ite ?_ (eventsBounded_refl s)
    split
    · exact eventsBounded_answered (begun _) _ _
    · exact eventsBounded_trans (begun _) (h _ _)

theorem eventsBounded_runBacklightOn (snap : BitVec 1024) (s : State) : EventsBounded s (s.runBacklightOn snap) := by
  have kept := eventsBounded_refl s
  have targeted : EventsBounded s (s.setTarget true) := eventsBounded_of_outside (outside_setTarget true s)
  refine eventsBounded_ite ?_ (eventsBounded_answered kept _ _)
  unfold State.backlightOn
  split
  · split
    · exact eventsBounded_answered kept _ _
    · exact eventsBounded_answered (eventsBounded_trans targeted (eventsBounded_powerUpBegin _)) _ _
  case h_2 | h_3 => exact eventsBounded_answered targeted _ _
  case h_5 => exact eventsBounded_ite (eventsBounded_answered kept _ _) (eventsBounded_answered kept _ _)
  all_goals exact eventsBounded_answered kept _ _

theorem eventsBounded_runReadEvents (snap : BitVec 1024) (s : State) : EventsBounded s (s.runReadEvents snap) := by
  refine eventsBounded_ite (eventsBounded_answered (eventsBounded_refl s) _ _) (eventsBounded_answered ?_ _ _)
  intro hs
  refine Nat.le_trans ?_ hs
  show (s.events.drop _).length ≤ _
  rw [List.length_drop]
  exact Nat.sub_le _ _

/-- Every command keeps the bound of the event queue. -/
theorem eventsBounded_exec {c : Instr} {s t : State} (h : exec c s = .next t) : EventsBounded s t := by
  have whenLive {f : State → State} (hf : ∀ s, EventsBounded s (f s)) (e : (.next (s.whenLive f) : Out) = .next t) :
      EventsBounded s t := by
    cases e
    exact eventsBounded_whenLive hf s
  have runs {r : Row} {body : BitVec 1024 → State → State} (hb : ∀ snap t, EventsBounded t (body snap t))
      (e : (.next (s.runCommand r body) : Out) = .next t) : EventsBounded s t := by
    cases e
    exact eventsBounded_runCommand r hb s
  cases c
  case requestReceived r =>
    exact whenLive (fun s => eventsBounded_ite (eventsBounded_refl s)
      (eventsBounded_ite (eventsBounded_of_outside (outside_link s _)) (eventsBounded_receive r s))) h
  case returnBeatReceived data =>
    refine whenLive (fun s => eventsBounded_ite (eventsBounded_refl s) ?_) h
    split
    · exact eventsBounded_downstreamDown s
    · exact eventsBounded_routeReturn _ _ data s
  case downstreamLinkDown => exact whenLive eventsBounded_downstreamDown h
  case resetAsserted =>
    cases h
    exact fun _ => Nat.zero_le _
  case analysisCompletion =>
    refine whenLive (fun s => ?_) h
    split
    · exact eventsBounded_completeAnalysis _ s
    · exact eventsBounded_refl s
  case supervisionTimerExpiry =>
    exact whenLive (fun s => eventsBounded_ite (eventsBounded_superviseExpire s) (eventsBounded_refl s)) h
  case returnCheck l bytes =>
    refine whenLive (fun s => ?_) h
    split
    · exact eventsBounded_ite
        (eventsBounded_ite (eventsBounded_frameSucceeds l _ bytes s) (eventsBounded_frameFails l _ s)) (eventsBounded_refl s)
    · exact eventsBounded_refl s
  case timeout l =>
    refine whenLive (fun s => ?_) h
    split
    · exact eventsBounded_frameFails l _ s
    · exact eventsBounded_refl s
  case waitSlotElapsed l =>
    exact whenLive (fun s => eventsBounded_ite (eventsBounded_lineStarts l s) (eventsBounded_refl s)) h
  case powerDownStep => exact whenLive (fun s => eventsBounded_ite (eventsBounded_dropOne s) (eventsBounded_refl s)) h
  case analogSample codes => exact whenLive (eventsBounded_sample codes) h
  case coolDownEnd codes =>
    exact whenLive (fun s => eventsBounded_ite (eventsBounded_sample codes s) (eventsBounded_refl s)) h
  case ocTrip => exact whenLive (fun s => eventsBounded_ite (eventsBounded_ocSample true s) (eventsBounded_refl s)) h
  case overcurrentSample asserted => exact whenLive (eventsBounded_ocSample asserted) h
  case timedRelease =>
    refine whenLive (fun s => ?_) h
    split
    · exact eventsBounded_ite (eventsBounded_releaseTrip s) (eventsBounded_refl s)
    · exact eventsBounded_refl s
  case backlightOn => exact runs eventsBounded_runBacklightOn h
  case backlightOff =>
    exact runs (fun _ t => eventsBounded_ite (eventsBounded_answered (eventsBounded_backlightOff t) _ _)
      (eventsBounded_answered (eventsBounded_refl t) _ _)) h
  case readEvents => exact runs eventsBounded_runReadEvents h
  case clearFaultProtection =>
    exact runs (fun _ t => eventsBounded_ite (eventsBounded_answered (eventsBounded_clearProtection t) _ _)
      (eventsBounded_answered (eventsBounded_refl t) _ _)) h
  case tableLoadBegin =>
    refine whenLive (fun s => ?_) h
    split
    · exact eventsBounded_refl s
    · split
      · exact eventsBounded_ite
          (eventsBounded_quiet (eventsBounded_of_outside (outside_setTableState _ _ s)) (outside_setLoad _ _ _))
          (eventsBounded_refl s)
      · exact eventsBounded_refl s
  all_goals exact eventsBounded_of_outside (exec_outside h) (by simp [touched])

/-- Settles O56: both bounds are kept by every command (`linkInv_exec`, `eventsBounded_exec`), so by every step. -/
theorem queueBoundsAreKept : Obligations.QueueBoundsAreKept := by
  intro s t h
  exact ⟨fun hs => step_keeps (P := fun s => LinkInv s.link) (fun _ _ h => h) (fun _ _ _ => linkInv_exec) hs h,
    fun hs => step_keeps (P := fun s => s.events.length ≤ 32) (fun _ _ h => h)
      (fun _ _ _ hs h => eventsBounded_exec h hs) hs h⟩

end Sys2Proof.Laws
end

section
/-! SUPPORT. The proofs about the slot shadows (R149 to R151) and the counting of writes (chapter 2, R46 to R50): the bytes of
a slot after a beat, what a counting write makes of its buffer, and the pixels in its bank. -/

namespace Sys2Proof.Laws

-- Each proof may wait for an earlier one; run one after another they need no thread each.
set_option Elab.async false

open Sys2Proof Sys2Proof.Machine Sys2Proof.Safety

/-! ### Bytes of beats and slots (R150, R170) -/

/-- A mask built byte by byte from the enables that are set. -/
theorem foldl_laneBit (en : Enables) (ns : List Nat) (m : Beat) (i : Nat) (hi : i < 256) :
    (ns.foldl (fun m j => if en.getLsbD j then m ||| (255#256 <<< (8 * j)) else m) m).getLsbD i
      = (m.getLsbD i || decide (i / 8 ∈ ns) && en.getLsbD (i / 8)) := by
  have lane (j : Nat) : (255#256 <<< (8 * j)).getLsbD i = decide (i / 8 = j) := by
    rw [BitVec.getLsbD_shiftLeft, show 255#256 = (BitVec.allOnes 8).setWidth 256 by decide, BitVec.getLsbD_setWidth,
      BitVec.getLsbD_allOnes]
    by_cases h : i / 8 = j
    · have h1 : ¬i < 8 * j := by omega
      have h2 : i - 8 * j < 8 := by omega
      have h3 : i - 8 * j < 256 := by omega
      simp [h, h1, h2, h3, hi]
    · have h1 : i < 8 * j ∨ ¬i - 8 * j < 8 := by omega
      rcases h1 with h1 | h1 <;> simp [h, h1]
  induction ns generalizing m with
  | nil => simp
  | cons n rest ih =>
    rw [List.foldl_cons, ih]
    by_cases hn : i / 8 = n
    · subst hn
      by_cases he : en.getLsbD (i / 8) = true
      · simp [he, lane]
      · simp [he]
    · by_cases he : en.getLsbD n = true
      · simp [he, lane, hn]
      · simp [he, hn]

theorem laneMask_bit (en : Enables) (i : Nat) (hi : i < 256) : (laneMask en).getLsbD i = en.getLsbD (i / 8) := by
  unfold laneMask
  rw [foldl_laneBit en _ _ i hi]
  have : i / 8 < 32 := by omega
  simp [this]

theorem mergeLanes_bit (en : Enables) (old new : Beat) (i : Nat) (hi : i < 256) :
    (mergeLanes en old new).getLsbD i = if en.getLsbD (i / 8) then new.getLsbD i else old.getLsbD i := by
  unfold mergeLanes
  simp only [BitVec.getLsbD_or, BitVec.getLsbD_and, BitVec.getLsbD_not, laneMask_bit en i hi, hi, decide_true]
  cases en.getLsbD (i / 8) <;> simp

/-- Bytes are equal when their bits are. -/
theorem byte_ext {n m : Nat} {x : BitVec n} {y : BitVec m} {a b : Nat} (h : ∀ i, i < 8 → x.getLsbD (a + i) = y.getLsbD (b + i)) :
    x.extractLsb' a 8 = y.extractLsb' b 8 := by
  refine BitVec.eq_of_getLsbD_eq fun i hi => ?_
  simp only [BitVec.getLsbD_extractLsb', hi, decide_true, Bool.true_and]
  exact h i hi

theorem putSlotBeat_bit (slot : BitVec 1024) (q : Nat) (d : Beat) (i : Nat) (hi : i < 1024) :
    (putSlotBeat slot q d).getLsbD i
      = if 256 * q ≤ i ∧ i < 256 * q + 256 then d.getLsbD (i - 256 * q) else slot.getLsbD i := by
  unfold putSlotBeat
  simp only [BitVec.getLsbD_or, BitVec.getLsbD_and, BitVec.getLsbD_not, BitVec.getLsbD_shiftLeft, BitVec.getLsbD_setWidth,
    BitVec.getLsbD_allOnes, hi, decide_true, Bool.true_and]
  by_cases h1 : i < 256 * q
  · have : ¬(256 * q ≤ i ∧ i < 256 * q + 256) := by omega
    simp [h1, this]
  · have h3 : i - 256 * q < 1024 := by omega
    by_cases h2 : i < 256 * q + 256
    · have hin : 256 * q ≤ i ∧ i < 256 * q + 256 := ⟨by omega, h2⟩
      have h4 : i - 256 * q < 256 := by omega
      simp [h1, h3, h4, hin]
    · have hout : ¬(256 * q ≤ i ∧ i < 256 * q + 256) := by omega
      have h4 : ¬i - 256 * q < 256 := by omega
      have h5 : d.getLsbD (i - 256 * q) = false := BitVec.getLsbD_of_ge _ _ (by omega)
      simp [h1, h4, h5, hout]

/-- A byte of a slot after one of its quarters has taken the enabled bytes of a beat (R150). -/
theorem putSlotBeat_merge_byte (slot : BitVec 1024) (q : Nat) (en : Enables) (d : Beat) (j : Nat) (hj : j < 128) :
    (putSlotBeat slot q (mergeLanes en (slotBeat slot q) d)).extractLsb' (8 * j) 8
      = if (32 * q ≤ j ∧ j < 32 * q + 32) ∧ en.getLsbD (j - 32 * q) = true then d.extractLsb' (8 * (j - 32 * q)) 8
        else slot.extractLsb' (8 * j) 8 := by
  have bit (i : Nat) (hi : i < 8) := putSlotBeat_bit slot q (mergeLanes en (slotBeat slot q) d) (8 * j + i) (by omega)
  by_cases hq : 32 * q ≤ j ∧ j < 32 * q + 32
  · have merged (i : Nat) (hi : i < 8) := mergeLanes_bit en (slotBeat slot q) d (8 * j + i - 256 * q) (by omega)
    have lane (i : Nat) (hi : i < 8) : (8 * j + i - 256 * q) / 8 = j - 32 * q := by omega
    by_cases he : en.getLsbD (j - 32 * q) = true
    · rw [if_pos ⟨hq, he⟩]
      refine byte_ext fun i hi => ?_
      rw [bit i hi, if_pos (by omega), merged i hi, lane i hi, if_pos he]
      congr 1
      omega
    · rw [if_neg fun h => he h.2]
      refine byte_ext fun i hi => ?_
      rw [bit i hi, if_pos (by omega), merged i hi, lane i hi, if_neg he, slotBeat, BitVec.getLsbD_extractLsb']
      rw [decide_eq_true (by omega), Bool.true_and]
      congr 1
      omega
  · rw [if_neg fun h => hq h.1]
    refine byte_ext fun i hi => ?_
    rw [bit i hi, if_neg (by omega)]

/-! ### One write beat received (R6) -/

theorem beatAddress_zero (r : Request) : r.beatAddress 0 = r.address := by
  simp [Request.beatAddress]

/-- The reception of a WRITE of one beat hands on that beat. -/
theorem receive_write (s : State) (r : Request) (b : WriteBeat) (h : r.body = .write [b]) :
    s.receive r = ((s.enqueue r).handWrite r.requester r.address.toNat b { begun := [], finished := [] }).2 := by
  unfold State.receive
  rw [h]
  simp only [State.handWrites, beatAddress_zero]

theorem enqueue_eq (s : State) (r : Request) : s.enqueue r = { s with link := joined s r } := by
  rw [← enqueue_link]
  rfl

theorem handWrite_control {s : State} {id : BitVec 6} {a offset : Nat} (h : s.locate a = .control offset) (b : WriteBeat)
    (m : RequestMarks) : s.handWrite id a b m = (m, s.captureBeat offset b) := by
  unfold State.handWrite
  rw [h]

theorem handWrite_unclassified {s : State} {id : BitVec 6} {a : Nat} (h : s.locate a = .unclassified) (b : WriteBeat)
    (m : RequestMarks) : s.handWrite id a b m = (m, s) := by
  unfold State.handWrite
  rw [h]

/-- The write classification of a beat that lies in window `w` (R4). -/
def writeClass (s : State) (id : BitVec 6) (w : WindowNo) (y x0 n : Nat) (b : WriteBeat) : WriteClass :=
  { window := w, line := y, firstPixel := x0, active := n
    writerPass := filterPasses id s.windows[w].writerMatch s.windows[w].writerMask, beat := b }

theorem handWrite_window {s : State} {id : BitVec 6} {a : Nat} {w : WindowNo} {y x0 n : Nat}
    (h : s.locate a = .window w y x0 n) (b : WriteBeat) (m : RequestMarks) :
    s.handWrite id a b m = s.writeBeat (writeClass s id w y x0 n b) m := by
  unfold State.handWrite
  rw [h]
  rfl

/-- Settles O12: the slot and the quarter of a beat are the quotient and remainder of its offset, and the bytes are those of
`putSlotBeat_merge_byte`. -/
theorem slotShadowsCaptureWrites : Obligations.SlotShadowsCaptureWrites := by
  intro s b offset h32
  refine ⟨fun hlt => ?_, fun hge => dif_neg (Nat.not_lt.2 hge), fun r hr hb hlt ha => ?_⟩
  · have capture : s.captureBeat offset b
        = { s with
            ring :=
              { s.ring with
                shadows :=
                  s.ring.shadows.set (offset / 128)
                    (putSlotBeat s.ring.shadows[offset / 128] (offset % 128 / 32)
                      (mergeLanes b.enables (slotBeat s.ring.shadows[offset / 128] (offset % 128 / 32)) b.data))
                pendingSlots :=
                  if commits (offset % 128 / 32) b.enables then
                    s.ring.pendingSlots ||| BitVec.twoPow 16 (offset / 128)
                  else s.ring.pendingSlots } } := dif_pos hlt
    refine ⟨fun k j hj => ?_, fun k => ?_, by rw [capture], by rw [capture], outside_captureBeat offset b s⟩
    · rw [capture]
      simp only [Fin.getElem_fin]
      rw [Vector.getElem_set]
      by_cases hk : offset / 128 = k.val
      · have shadow : s.ring.shadows[offset / 128] = s.ring.shadows[k.val] := by congr 1
        have hoff : offset = 128 * k.val + 32 * (offset % 128 / 32) := by omega
        rw [if_pos hk, putSlotBeat_merge_byte _ _ _ _ j hj, shadow]
        have place : 128 * k.val + j - offset = j - 32 * (offset % 128 / 32) := by omega
        rw [place]
        have range : (offset ≤ 128 * k.val + j ∧ 128 * k.val + j < offset + 32)
            ↔ 32 * (offset % 128 / 32) ≤ j ∧ j < 32 * (offset % 128 / 32) + 32 := by omega
        simp only [← and_assoc, range]
      · rw [if_neg hk, if_neg (fun h => hk (by omega))]
    · rw [capture]
      have quarter : commits (offset % 128 / 32) b.enables = true
          ↔ offset % 128 / 32 = 3 ∧ b.enables.extractLsb' 28 4 = 15#4 := by
        simp [commits]
      by_cases hc : commits (offset % 128 / 32) b.enables = true
      · obtain ⟨hq, he⟩ := quarter.1 hc
        have hbit : offset / 128 = k.val ↔ offset = 128 * k.val + 96 := by omega
        have h16 : offset / 128 < 16 := by omega
        simp only [hc, if_true, BitVec.getLsbD_or, BitVec.getLsbD_twoPow, he, and_true, hbit, h16, decide_true, Bool.true_and]
      · have hn : ¬(offset = 128 * k.val + 96 ∧ b.enables.extractLsb' 28 4 = 15#4) := fun ⟨ho, he⟩ =>
          hc (quarter.2 ⟨by omega, he⟩)
        rw [if_neg hc, decide_eq_false hn, Bool.or_false]
  · have place : (s.enqueue r).locate r.address.toNat = .control offset := by
      have ho : r.address.toNat - s.controlBase = offset := by rw [ha, Nat.add_sub_cancel_left]
      show (if s.controlBase ≤ r.address.toNat ∧ r.address.toNat - s.controlBase < 4096 then
        Place.control (r.address.toNat - s.controlBase) else _) = _
      rw [ho, if_pos ⟨by omega, hlt⟩]
    rw [exec_received hr, receive_write s r b hb, handWrite_control place, enqueue_eq]

end Sys2Proof.Laws
end

section
/-! SUPPORT. The proofs about counting writes (R25 to R36, R46 to R50): what the first counting beat makes of a buffer, what
the counting of a beat makes of it, and the bank that takes the pixels. -/

namespace Sys2Proof.Laws

-- Each proof may wait for an earlier one; run one after another they need no thread each.
set_option Elab.async false

open Sys2Proof Sys2Proof.Machine Sys2Proof.Safety

/-! ### Flags one after another -/

theorem flagsAdded_refl (s : State) : flagsAdded s s [] := fun f => by simp

theorem flagsAdded_trans {s t u : State} {fs gs : List Flag} (h : flagsAdded s t fs) (k : flagsAdded t u gs) :
    flagsAdded s u (fs ++ gs) := fun f => by
  rw [k f, h f]
  simp [Bool.or_assoc]

theorem flagsAdded_congr {s t : State} {fs gs : List Flag} (h : flagsAdded s t fs) (hfg : ∀ f, f ∈ fs ↔ f ∈ gs) :
    flagsAdded s t gs := fun f => by
  rw [h f, decide_eq_decide.2 (hfg f)]

theorem flagsAdded_of_accrued {s t : State} (h : t.accrued = s.accrued) : flagsAdded s t [] := fun f => by
  simp [State.flag, h]

theorem flagsAdded_of_outside {ps : List Piece} {s t : State} (h : Outside ps s t)
    (hn : Piece.accrued ∉ ps := by decide) : flagsAdded s t [] :=
  flagsAdded_of_accrued (h .accrued hn)

/-- Flags are read of `accrued` alone. -/
theorem flagsAdded_congr_state {s s' t t' : State} {fs : List Flag} (h : flagsAdded s t fs) (hs : s'.accrued = s.accrued)
    (ht : t'.accrued = t.accrued) : flagsAdded s' t' fs := fun f => by
  have := h f
  simp only [State.flag, hs, ht] at this ⊢
  exact this

theorem flagsAdded_setFlag (f : Flag) (s : State) : flagsAdded s (s.setFlag f) [f] := fun g => by
  simp [flag_setFlag]

theorem flagsAdded_setFlagIf (c : Bool) (f : Flag) (s : State) : flagsAdded s (s.setFlagIf c f) (if c then [f] else []) :=
  fun g => by
    rw [flag_setFlagIf]
    cases c <;> simp

/-! ### Reading a record after one is replaced -/

theorem buffers_set_get (v : Vector Buffer 4) (w u : WindowNo) (b : Buffer) :
    (v.set w b)[u] = if u = w then b else v[u] := by
  simp only [Fin.getElem_fin, Vector.getElem_set, Fin.val_inj]
  exact if_congr eq_comm rfl rfl

theorem banks_set_get (v : Vector Bank 2) (k j : BankNo) (b : Bank) : (v.set k b)[j] = if j = k then b else v[j] := by
  simp only [Fin.getElem_fin, Vector.getElem_set, Fin.val_inj]
  exact if_congr eq_comm rfl rfl

theorem buffers_set_self (v : Vector Buffer 4) (w : WindowNo) : v.set w v[w] = v := by
  refine Vector.ext fun i hi => ?_
  rw [Vector.getElem_set]
  split
  · next h => subst h; rfl
  · rfl

/-! ### The beginning of a counting write (R26 to R33) -/

/-- The state of buffer `w` once a counting write has begun (R27 to R33). -/
def begunState (s : State) (w : WindowNo) : BufferState :=
  match s.buffers[w].state with
  | .disabled => .disabled
  | .idle | .ready _ | .shown _ => claimed s
  | .filling k => .filling k
  | .blind => .blind
  | .queued k | .analysing k => .filling k

/-- The flags that the beginning of a counting write sets (R30 to R33). -/
def begunFlags (s : State) (w : WindowNo) : List Flag :=
  match s.buffers[w].state with
  | .disabled | .idle | .filling _ | .blind => []
  | .queued _ => [.dropped]
  | .analysing _ => [.aborted, .dropped]
  | .ready _ =>
    if s.scan.pointer = some w ∧ s.scan.committed < s.grid.rows then [.tear, .dropped] else [.dropped]
  | .shown _ => if s.scan.pointer = some w ∧ s.scan.committed < s.grid.rows then [.tear] else []

/-- The analysis queue once a counting write has begun: a QUEUED buffer leaves it (R29). -/
def begunQueue (s : State) (w : WindowNo) : List WindowNo :=
  match s.buffers[w].state with
  | .queued _ => s.queue.filter (· ≠ w)
  | _ => s.queue

/-- The engine once a counting write has begun: the analysis of an ANALYSING buffer is discarded (R30). -/
def begunEngine (s : State) (w : WindowNo) : Engine :=
  match s.buffers[w].state with
  | .analysing _ => { s.engine with analysis := none }
  | _ => s.engine

/-- The banks once a counting write has begun: the bank that the buffer then holds is emptied with the threshold in force,
unless the buffer was FILLING it (R27, R29, R30, R47, R48). -/
def begunBanks (s : State) (w : WindowNo) : Vector Bank 2 :=
  match (begunState s w).bank with
  | some k =>
    if s.buffers[w].state = .filling k then s.banks
    else s.banks.set k { threshold := s.brightThreshold, zones := ZoneTable.empty }
  | none => s.banks

/-- What the beginning of a counting write in `s` leaves in `t`. -/
structure Begun (s t : State) (w : WindowNo) : Prop where
  buffers : t.buffers = s.buffers.set w { state := begunState s w, written := countedBefore s.buffers[w] }
  queue : t.queue = begunQueue s w
  engine : t.engine = begunEngine s w
  banks : t.banks = begunBanks s w
  flags : flagsAdded s t (begunFlags s w)

theorem claimBank_eq (s : State) (w : WindowNo) :
    s.claimBank w
      = { s with
          buffers := s.buffers.set w { state := claimed s, written := 0 }
          banks :=
            match s.freeBank with
            | some k => s.banks.set k { threshold := s.brightThreshold, zones := ZoneTable.empty }
            | none => s.banks } := by
  unfold State.claimBank claimed
  cases s.freeBank <;> rfl

theorem tears_iff (s : State) (w : WindowNo) :
    s.tears w = true ↔ s.scan.pointer = some w ∧ s.scan.committed < s.grid.rows := by
  simp [State.tears]

/-- A claim after flags have been set is a claim that sets those flags. -/
theorem begun_claimBank {s t : State} {w : WindowNo} (h : Outside [.accrued] s t)
    (hf : flagsAdded s t (begunFlags s w))
    (hc : s.buffers[w].state = .idle ∨ (∃ k, s.buffers[w].state = .ready k) ∨ ∃ k, s.buffers[w].state = .shown k) :
    Begun s (t.claimBank w) w := by
  have hb : t.buffers = s.buffers := h .buffers (by decide)
  have free : t.freeBank = s.freeBank := by unfold State.freeBank State.bankHeld; rw [hb]
  have threshold : t.brightThreshold = s.brightThreshold := by
    unfold State.brightThreshold State.paramsInForce State.selectedState
    rw [h .engine (by decide), h .tables (by decide)]
  have state : begunState s w = claimed s := by
    unfold begunState
    rcases hc with e | ⟨k, e⟩ | ⟨k, e⟩ <;> rw [e]
  have count : countedBefore s.buffers[w] = 0 := by
    unfold countedBefore
    rcases hc with e | ⟨k, e⟩ | ⟨k, e⟩ <;> rw [e] <;> rfl
  have idle : ∀ k, s.buffers[w].state ≠ .filling k := by
    rcases hc with e | ⟨k, e⟩ | ⟨k, e⟩ <;> rw [e] <;> exact fun _ => nofun
  rw [claimBank_eq]
  refine ⟨?_, ?_, ?_, ?_, flagsAdded_congr_state hf rfl rfl⟩
  · rw [state, count, ← hb]
    unfold claimed
    rw [free]
  · unfold begunQueue
    rcases hc with e | ⟨k, e⟩ | ⟨k, e⟩ <;> rw [e] <;> exact h .queue (by decide)
  · unfold begunEngine
    rcases hc with e | ⟨k, e⟩ | ⟨k, e⟩ <;> rw [e] <;> exact h .engine (by decide)
  · have hk : t.banks = s.banks := h .banks (by decide)
    unfold begunBanks
    dsimp only
    rw [state, claimed, free, threshold, hk]
    cases s.freeBank with
    | none => rfl
    | some k => exact (if_neg (idle k)).symm

theorem outside_setFlag_of {ps : List Piece} {s t : State} (h : Outside ps s t) (f : Flag) (hp : Piece.accrued ∈ ps := by decide) :
    Outside ps s (t.setFlag f) :=
  outside_step (outside_setFlag f t) (by simpa using hp) h

/-- The beginning of a counting write of a buffer that is not DISABLED (R26 to R33). -/
theorem beginCounting_spec (s : State) (w : WindowNo) (hd : s.buffers[w].state ≠ .disabled) : Begun s (s.beginCounting w) w := by
  have same (state : BufferState) (hs : s.buffers[w].state = state) (hc : state.counting = true) :
      s.buffers = s.buffers.set w { state := state, written := countedBefore s.buffers[w] } := by
    have e : ({ state := state, written := countedBefore s.buffers[w] } : Buffer) = s.buffers[w] := by
      rw [← hs]
      unfold countedBefore
      rw [hs, hc, ← hs]
      rfl
    rw [e, buffers_set_self]
  have kept : Outside [.accrued] s (s.setFlagIf (s.tears w) .tear) := outside_setFlagIf _ _ s
  have tears : flagsAdded s (s.setFlagIf (s.tears w) .tear)
      (if s.scan.pointer = some w ∧ s.scan.committed < s.grid.rows then [.tear] else []) := by
    refine flagsAdded_congr (flagsAdded_setFlagIf _ _ s) fun f => ?_
    rw [if_congr (tears_iff s w) rfl rfl]
  unfold State.beginCounting
  rcases hs : s.buffers[w].state with _ | _ | k | _ | k | k | k | k
  case disabled => exact absurd hs hd
  case idle =>
    refine begun_claimBank (outside_refl _ s) ?_ (Or.inl hs)
    rw [begunFlags, hs]
    exact flagsAdded_refl s
  case filling =>
    refine ⟨?_, ?_, ?_, ?_, ?_⟩
    · rw [begunState, hs]
      exact same _ hs rfl
    · rw [begunQueue, hs]
    · rw [begunEngine, hs]
    · rw [begunBanks, begunState, hs]
      exact (if_pos rfl).symm
    · rw [begunFlags, hs]
      exact flagsAdded_refl s
  case blind =>
    refine ⟨?_, ?_, ?_, ?_, ?_⟩
    · rw [begunState, hs]
      exact same _ hs rfl
    · rw [begunQueue, hs]
    · rw [begunEngine, hs]
    · rw [begunBanks, begunState, hs]
      rfl
    · rw [begunFlags, hs]
      exact flagsAdded_refl s
  case queued =>
    refine ⟨?_, ?_, ?_, ?_, ?_⟩
    · rw [begunState, countedBefore, hs]
      rfl
    · rw [begunQueue, hs]
      rfl
    · rw [begunEngine, hs]
      rfl
    · rw [begunBanks, begunState, hs]
      exact (if_neg nofun).symm
    · rw [begunFlags, hs]
      exact flagsAdded_congr_state (flagsAdded_setFlag .dropped s) rfl rfl
  case analysing =>
    refine ⟨?_, ?_, ?_, ?_, ?_⟩
    · rw [begunState, countedBefore, hs]
      rfl
    · rw [begunQueue, hs]
      rfl
    · rw [begunEngine, hs]
      rfl
    · rw [begunBanks, begunState, hs]
      exact (if_neg nofun).symm
    · rw [begunFlags, hs]
      exact flagsAdded_congr_state
        (flagsAdded_trans (flagsAdded_setFlag .aborted s) (flagsAdded_setFlag .dropped (s.setFlag .aborted))) rfl rfl
  case ready =>
    refine begun_claimBank (outside_setFlag_of kept .dropped) ?_ (Or.inr (Or.inl ⟨k, hs⟩))
    rw [begunFlags, hs]
    refine flagsAdded_congr (flagsAdded_trans tears (flagsAdded_setFlag .dropped _)) fun f => ?_
    dsimp only
    split <;> simp
  case shown =>
    refine begun_claimBank kept ?_ (Or.inr (Or.inr ⟨k, hs⟩))
    rw [begunFlags, hs]
    exact tears

/-! ### The counting of a beat (R28, R34, R35, R49) -/

theorem countBeat_filling {s : State} {c : WriteClass} {k : BankNo} (h : s.buffers[c.window].state = .filling k) :
    s.countBeat c
      = { s with
          banks := s.banks.set k (s.countInto c s.banks[k])
          buffers :=
            s.buffers.set c.window
              { state :=
                  if s.windows[c.window].area ≤ s.buffers[c.window].written + c.wholeWords.length then .queued k
                  else .filling k
                written := s.buffers[c.window].written + c.wholeWords.length }
          queue :=
            if s.windows[c.window].area ≤ s.buffers[c.window].written + c.wholeWords.length then s.queue ++ [c.window]
            else s.queue } := by
  unfold State.countBeat
  dsimp only
  rw [h]
  dsimp only
  split <;> rfl

theorem countBeat_blind {s : State} {c : WriteClass} (h : s.buffers[c.window].state = .blind) :
    s.countBeat c
      = if s.windows[c.window].area ≤ s.buffers[c.window].written + c.wholeWords.length then
          (s.setBuffer c.window { state := .idle, written := 0 }).setFlag .blind
        else
          s.setBuffer c.window
            { state := .blind, written := s.buffers[c.window].written + c.wholeWords.length } := by
  unfold State.countBeat
  dsimp only
  rw [h]

theorem countBeat_other {s : State} {c : WriteClass} (h : s.buffers[c.window].state.counting = false) : s.countBeat c = s := by
  unfold State.countBeat
  dsimp only
  rcases hs : s.buffers[c.window].state with _ | _ | k | _ | k | k | k | k
  case filling | blind => rw [hs] at h; cases h
  all_goals rfl

theorem wholeWords_eq (c : WriteClass) : c.wholeWords = wholePixels c.beat c.active := by
  refine List.filter_congr fun k _ => ?_
  unfold wordWrite
  by_cases h : wordEnables c.beat.enables k = 15#4
  · rw [if_pos h, h]
    rfl
  · rw [if_neg h]
    have : (wordEnables c.beat.enables k == 15#4) = false := by simpa using h
    rw [this]
    split <;> rfl

theorem hasPartial_iff (c : WriteClass) :
    c.hasPartial = true
      ↔ ∃ k, k < c.active ∧ wordEnables c.beat.enables k ≠ 15#4 ∧ wordEnables c.beat.enables k ≠ 0#4 := by
  simp only [WriteClass.hasPartial, List.any_eq_true, List.mem_range]
  refine exists_congr fun k => and_congr_right fun _ => ?_
  unfold wordWrite
  split
  · next h => simp [h]
  · next h =>
    split
    · next h0 => simp [h0]
    · next h0 => simp [h, h0]

theorem flagsAdded_partial (c : WriteClass) (s : State) :
    flagsAdded s (s.setFlagIf c.hasPartial .partialPixel) (partialFlags c.beat c.active) := by
  refine flagsAdded_congr (flagsAdded_setFlagIf _ _ s) fun f => ?_
  unfold partialFlags
  rw [if_congr (hasPartial_iff c) rfl rfl]

/-- Pixels counted one after another: each zone takes the luminances of its own pixels, in their order (R49). -/
theorem countPixels_get (zone lum : Nat → Nat) (ks : List Nat) (start : Bank) :
    (ks.foldl (fun b k => b.countPixel (zone k) (lum k)) start).threshold = start.threshold
    ∧ ∀ z,
        let t := (ks.foldl (fun b k => b.countPixel (zone k) (lum k)) start).zones.get z
        let ys := (ks.filter fun i => zone i == z).map lum
        t.pixels = (start.zones.get z).pixels + ys.length ∧ t.sum = (start.zones.get z).sum + ys.sum
        ∧ t.peak = ys.foldl max (start.zones.get z).peak
        ∧ t.bright = (start.zones.get z).bright + (ys.filter fun v => decide (start.threshold ≤ v)).length := by
  induction ks generalizing start with
  | nil => exact ⟨rfl, fun z => ⟨rfl, rfl, rfl, rfl⟩⟩
  | cons k rest ih =>
    obtain ⟨hthreshold, hzones⟩ := ih (start.countPixel (zone k) (lum k))
    refine ⟨hthreshold, fun z => ?_⟩
    obtain ⟨hpixels, hsum, hpeak, hbright⟩ := hzones z
    simp only [List.foldl_cons]
    rw [hpixels, hsum, hpeak, hbright]
    have get : (start.countPixel (zone k) (lum k)).zones.get z
        = if z = zone k then (start.zones.get z).count start.threshold (lum k) else start.zones.get z := by
      show (start.zones.set (zone k) _).get z = _
      rw [ZoneTable.get_set]
      split
      · next e => rw [e]
      · rfl
    rw [get]
    by_cases hz : z = zone k
    · subst hz
      rw [if_pos rfl]
      simp only [BEq.rfl, List.filter_cons_of_pos, List.map_cons, List.length_cons, List.sum_cons, List.foldl_cons,
        ZoneStat.count]
      refine ⟨by omega, by omega, trivial, ?_⟩
      by_cases hb : start.threshold ≤ lum k
      · rw [if_pos hb, List.filter_cons_of_pos (by simpa using hb), List.length_cons]
        show _ + 1 + (List.filter (fun v => decide (start.threshold ≤ v)) _).length = _
        omega
      · rw [if_neg hb, List.filter_cons_of_neg (by simpa using hb)]
        rfl
    · have hne : (zone k == z) = false := by simpa using fun e => hz e.symm
      rw [if_neg hz, List.filter_cons_of_neg (by simp [hne])]
      exact ⟨rfl, rfl, rfl, rfl⟩

/-- The pixels of a beat enter a bank (R44, R45, R49). -/
theorem countInto_bankCounts {s t : State} (hw : t.windows = s.windows) (hg : t.grid = s.grid) (c : WriteClass)
    (start : Bank) : BankCounts s c.window c.beat c.line c.firstPixel c.active start (t.countInto c start) := by
  unfold State.countInto
  dsimp only
  rw [hw, hg, wholeWords_eq]
  exact countPixels_get
    (fun k => zoneAt s.grid s.windows[c.window].width s.windows[c.window].height (c.firstPixel + k) c.line)
    (fun k => luminance s.windows[c.window].format (pixelWord c.beat.data k)) (wholePixels c.beat c.active) start

end Sys2Proof.Laws
end

section
/-! SUPPORT. The proofs about a WRITE of one beat into a window (R25 to R36, R50): the whole state after a counting write, a
completed frame, and the writes that count nothing. -/

namespace Sys2Proof.Laws

-- Each proof may wait for an earlier one; run one after another they need no thread each.
set_option Elab.async false

open Sys2Proof Sys2Proof.Machine Sys2Proof.Safety

/-! ### The hand-off of a write beat (R6, R25) -/

theorem writeBeat_filtered {c : WriteClass} (h : c.writerPass = false) (m : RequestMarks) (s : State) :
    s.writeBeat c m = (m, s) := by
  unfold State.writeBeat
  rw [h]
  rfl

/-- A beat with no whole pixel, and one of a window whose frame this request has completed, counts nothing (R25, R50). -/
theorem writeBeat_ignored {c : WriteClass} {m : RequestMarks} (h : c.writerPass = true)
    (hn : c.wholeWords = [] ∨ c.window ∈ m.finished) (s : State) :
    s.writeBeat c m = (m, s.setFlagIf c.hasPartial .partialPixel) := by
  unfold State.writeBeat
  rw [if_pos h]
  exact if_pos hn

/-- A beat that counts: the first of its window in the request begins a counting write (R25). -/
theorem writeBeat_counts {c : WriteClass} {m : RequestMarks} (h : c.writerPass = true) (hw : c.wholeWords ≠ [])
    (hf : c.window ∉ m.finished) (s : State) :
    (s.writeBeat c m).2
      = ((if c.window ∈ m.begun then s.setFlagIf c.hasPartial .partialPixel
          else (s.setFlagIf c.hasPartial .partialPixel).beginCounting c.window).countBeat c) := by
  unfold State.writeBeat
  rw [if_pos h]
  dsimp only
  rw [if_neg (not_or.2 ⟨hw, hf⟩)]

/-- No beat of the request has counted yet. -/
abbrev noMarks : RequestMarks := { begun := [], finished := [] }

/-- The reception of a WRITE of one beat that lies in a window. -/
theorem exec_write_window {s : State} {r : Request} {b : WriteBeat} {w : WindowNo} {y x0 n : Nat} (hr : received s r)
    (hb : r.body = .write [b]) (hp : s.locate r.address.toNat = .window w y x0 n) :
    exec (.requestReceived r) s
      = .next (State.writeBeat (writeClass s r.requester w y x0 n b) noMarks { s with link := joined s r }).2 := by
  have place : (s.enqueue r).locate r.address.toNat = .window w y x0 n := hp
  rw [exec_received hr, receive_write s r b hb, handWrite_window place, enqueue_eq]
  rfl

/-- A write that a counting write is made of: its class passes the filter and has whole pixels. -/
theorem exec_countingWrite {s : State} {r : Request} {b : WriteBeat} {w : WindowNo} {y x0 n : Nat}
    (h : CountingWrite s r b w y x0 n) :
    exec (.requestReceived r) s
      = .next
          ((State.beginCounting w
            (State.setFlagIf (writeClass s r.requester w y x0 n b).hasPartial .partialPixel
              { s with link := joined s r })).countBeat (writeClass s r.requester w y x0 n b)) := by
  have whole : (writeClass s r.requester w y x0 n b).wholeWords ≠ [] := by
    rw [wholeWords_eq]
    exact h.whole
  rw [exec_write_window h.received h.body h.place, writeBeat_counts h.writer whole (by simp), if_neg (by simp)]
  rfl

/-! ### A counting write as a whole -/

/-- The state in which a counting write of window `w` counts its beat, in terms of the state before it. -/
structure Counting (s u : State) (r : Request) (b : WriteBeat) (w : WindowNo) (n : Nat) : Prop where
  buffers : u.buffers = s.buffers.set w { state := begunState s w, written := countedBefore s.buffers[w] }
  queue : u.queue = begunQueue s w
  engine : u.engine = begunEngine s w
  banks : u.banks = begunBanks s w
  flags : flagsAdded s u (partialFlags b n ++ begunFlags s w)
  link : u.link = joined s r
  outside : Outside [.link, .buffers, .queue, .banks, .engine, .accrued] s u

theorem brightThreshold_congr {s t : State} (he : t.engine = s.engine) (ht : t.tables = s.tables) :
    t.brightThreshold = s.brightThreshold := by
  unfold State.brightThreshold State.paramsInForce State.selectedState
  rw [he, ht]

theorem claimed_congr {s t : State} (hb : t.buffers = s.buffers) : claimed t = claimed s := by
  unfold claimed State.freeBank State.bankHeld
  rw [hb]

/-- The terms of a beginning do not look at the link and the flags. -/
theorem begun_of_outside {s t u : State} {w : WindowNo} (h : Outside [.link, .accrued] s t) (hb : Begun t u w) :
    u.buffers = s.buffers.set w { state := begunState s w, written := countedBefore s.buffers[w] }
    ∧ u.queue = begunQueue s w ∧ u.engine = begunEngine s w ∧ u.banks = begunBanks s w
    ∧ flagsAdded t u (begunFlags s w) := by
  obtain ⟨buffers, queue, engine, banks, flags⟩ := hb
  have hbuf : t.buffers = s.buffers := h .buffers (by decide)
  have state : begunState t w = begunState s w := by
    unfold begunState
    rw [hbuf, claimed_congr hbuf]
  have hscan : t.scan = s.scan := h .scan (by decide)
  have hgrid : t.grid = s.grid := h .grid (by decide)
  refine ⟨?_, ?_, ?_, ?_, ?_⟩
  · rw [buffers, state, hbuf]
  · rw [queue]
    unfold begunQueue
    rw [hbuf, show t.queue = s.queue from h .queue (by decide)]
  · rw [engine]
    unfold begunEngine
    rw [hbuf, show t.engine = s.engine from h .engine (by decide)]
  · rw [banks]
    unfold begunBanks
    rw [state, hbuf, show t.banks = s.banks from h .banks (by decide),
      brightThreshold_congr (h .engine (by decide)) (h .tables (by decide))]
  · unfold begunFlags at flags ⊢
    rw [hbuf, hscan, hgrid] at flags
    exact flags

theorem counting_spec {s : State} {r : Request} {b : WriteBeat} {w : WindowNo} {y x0 n : Nat}
    (hd : s.buffers[w].state ≠ .disabled) :
    Counting s
      (State.beginCounting w
        (State.setFlagIf (writeClass s r.requester w y x0 n b).hasPartial .partialPixel { s with link := joined s r }))
      r b w n := by
  have linked : Outside [.link] s { s with link := joined s r } := outside_link s _
  have flagged : Outside [.link, .accrued] s
      (State.setFlagIf (writeClass s r.requester w y x0 n b).hasPartial .partialPixel { s with link := joined s r }) :=
    outside_step (outside_setFlagIf _ _ _) (by decide) (outside_mono linked (by decide))
  have marks := flagsAdded_congr_state (s' := s)
    (flagsAdded_partial (writeClass s r.requester w y x0 n b) { s with link := joined s r }) rfl rfl
  have hlink : (State.setFlagIf (writeClass s r.requester w y x0 n b).hasPartial .partialPixel
      { s with link := joined s r }).link = joined s r := outside_setFlagIf _ _ _ .link (by decide)
  generalize State.setFlagIf (writeClass s r.requester w y x0 n b).hasPartial .partialPixel { s with link := joined s r } = t
    at flagged marks hlink ⊢
  have hbuf : t.buffers = s.buffers := flagged .buffers (by decide)
  obtain ⟨buffers, queue, engine, banks, flags⟩ :=
    begun_of_outside flagged (beginCounting_spec t w (by rw [hbuf]; exact hd))
  have frame := outside_beginCounting w t
  exact ⟨buffers, queue, engine, banks, flagsAdded_trans marks flags, (frame .link (by decide)).trans hlink,
    outside_step frame (by decide) (outside_mono flagged (by decide))⟩

theorem Counting.state {s u : State} {r : Request} {b : WriteBeat} {w : WindowNo} {n : Nat} (h : Counting s u r b w n) :
    u.buffers[w].state = begunState s w := by
  rw [h.buffers, buffers_set_get, if_pos rfl]

theorem Counting.written {s u : State} {r : Request} {b : WriteBeat} {w : WindowNo} {n : Nat} (h : Counting s u r b w n) :
    u.buffers[w].written = countedBefore s.buffers[w] := by
  rw [h.buffers, buffers_set_get, if_pos rfl]

theorem begunState_counting (s : State) (w : WindowNo) (hd : s.buffers[w].state ≠ .disabled) :
    (∃ k, begunState s w = .filling k) ∨ begunState s w = .blind := by
  have claims : (∃ k, claimed s = .filling k) ∨ claimed s = .blind := by
    unfold claimed
    cases s.freeBank with
    | none => exact Or.inr rfl
    | some k => exact Or.inl ⟨k, rfl⟩
  unfold begunState
  rcases hs : s.buffers[w].state with _ | _ | k | _ | k | k | k | k
  case disabled => exact absurd hs hd
  case filling | queued | analysing => exact Or.inl ⟨k, rfl⟩
  case blind => exact Or.inr rfl
  all_goals exact claims

/-- The counting of a beat into a FILLING buffer (R28, R34, R36). -/
theorem countBeat_filling_spec {u : State} {c : WriteClass} {k : BankNo} (hs : u.buffers[c.window].state = .filling k) :
    let m := u.buffers[c.window].written + c.wholeWords.length
    let full := u.windows[c.window].area ≤ m
    (u.countBeat c).buffers = u.buffers.set c.window { state := if full then .queued k else .filling k, written := m }
    ∧ (u.countBeat c).queue = (if full then u.queue ++ [c.window] else u.queue)
    ∧ (u.countBeat c).banks = u.banks.set k (u.countInto c u.banks[k])
    ∧ Outside [.buffers, .queue, .banks] u (u.countBeat c) := by
  rw [countBeat_filling hs]
  refine ⟨rfl, rfl, rfl, fun p hp => ?_⟩
  cases p <;> first
    | rfl
    | exact absurd (by decide) hp

/-- The counting of a beat of a BLIND buffer (R28, R35). -/
theorem countBeat_blind_spec {u : State} {c : WriteClass} (hs : u.buffers[c.window].state = .blind) :
    let m := u.buffers[c.window].written + c.wholeWords.length
    let full := u.windows[c.window].area ≤ m
    (u.countBeat c).buffers
        = u.buffers.set c.window (if full then { state := .idle, written := 0 } else { state := .blind, written := m })
    ∧ flagsAdded u (u.countBeat c) (if full then [.blind] else []) ∧ Outside [.buffers, .accrued] u (u.countBeat c) := by
  have counted (b : Buffer) : Outside [.buffers, .accrued] u (u.setBuffer c.window b) :=
    outside_mono (outside_setBuffer _ _ u) (by decide)
  dsimp only
  rw [countBeat_blind hs]
  split
  · exact ⟨rfl, flagsAdded_congr_state (flagsAdded_setFlag .blind u) rfl rfl, outside_setFlag_of (counted _) .blind⟩
  · exact ⟨rfl, flagsAdded_refl u, counted _⟩

/-- A beat that leaves its frame incomplete: the buffer counts it (R28). -/
theorem countBeat_incomplete {u : State} {c : WriteClass}
    (hs : (∃ k, u.buffers[c.window].state = .filling k) ∨ u.buffers[c.window].state = .blind)
    (hn : u.buffers[c.window].written + c.wholeWords.length < u.windows[c.window].area) :
    (u.countBeat c).buffers
      = u.buffers.set c.window
          { state := u.buffers[c.window].state, written := u.buffers[c.window].written + c.wholeWords.length }
    ∧ (u.countBeat c).queue = u.queue ∧ flagsAdded u (u.countBeat c) []
    ∧ Outside [.buffers, .queue, .banks, .accrued] u (u.countBeat c) := by
  have hlt := Nat.not_le.2 hn
  rcases hs with ⟨k, hs⟩ | hs
  · obtain ⟨buffers, queue, -, frame⟩ := countBeat_filling_spec hs
    rw [if_neg hlt] at buffers queue
    rw [hs]
    exact ⟨buffers, queue, flagsAdded_of_outside frame, outside_mono frame (by decide)⟩
  · obtain ⟨buffers, flags, frame⟩ := countBeat_blind_spec hs
    rw [if_neg hlt] at buffers flags
    rw [hs]
    exact ⟨buffers, frame .queue (by decide), flags, outside_mono frame (by decide)⟩

theorem countingWrite_incomplete {s : State} {r : Request} {b : WriteBeat} {w : WindowNo} {y x0 n : Nat}
    (h : CountingWrite s r b w y x0 n) (hd : s.buffers[w].state ≠ .disabled)
    (hn : countedBefore s.buffers[w] + (wholePixels b n).length < s.windows[w].area) :
    ∃ t, exec (.requestReceived r) s = .next t ∧ t.link = joined s r
      ∧ t.buffers
          = s.buffers.set w
              { state := begunState s w, written := countedBefore s.buffers[w] + (wholePixels b n).length }
      ∧ flagsAdded s t (partialFlags b n ++ begunFlags s w) ∧ t.queue = begunQueue s w ∧ t.engine = begunEngine s w
      ∧ Outside [.link, .buffers, .queue, .banks, .engine, .accrued] s t := by
  refine ⟨_, exec_countingWrite h, ?_⟩
  have k := counting_spec (s := s) (r := r) (b := b) (w := w) (y := y) (x0 := x0) (n := n) hd
  generalize State.beginCounting w _ = u at k ⊢
  have hwin : u.windows = s.windows := k.outside .windows (by decide)
  obtain ⟨buffers, queue, flags, frame⟩ := countBeat_incomplete (u := u) (c := writeClass s r.requester w y x0 n b)
    (by show (∃ k, u.buffers[w].state = _) ∨ u.buffers[w].state = _
        rw [k.state]
        exact begunState_counting s w hd)
    (by show u.buffers[w].written + _ < u.windows[w].area
        rw [wholeWords_eq, k.written, hwin]
        exact hn)
  refine ⟨(frame .link (by decide)).trans k.link, ?_,
    flagsAdded_congr (flagsAdded_trans k.flags flags) fun f => by rw [List.append_nil],
    queue.trans k.queue, (frame .engine (by decide)).trans k.engine, outside_step frame (by decide) k.outside⟩
  rw [buffers]
  show u.buffers.set w { state := u.buffers[w].state, written := u.buffers[w].written + _ } = _
  rw [k.state, k.written, wholeWords_eq, k.buffers, Vector.set_set]
  rfl

/-- A buffer that is counting keeps its record at the beginning of a counting write (R28). -/
theorem counting_kept {s : State} {w : WindowNo} (hc : s.buffers[w].state.counting = true) :
    begunState s w = s.buffers[w].state ∧ countedBefore s.buffers[w] = s.buffers[w].written ∧ begunQueue s w = s.queue
    ∧ begunEngine s w = s.engine ∧ begunBanks s w = s.banks ∧ begunFlags s w = [] := by
  unfold begunBanks begunState countedBefore begunQueue begunEngine begunFlags
  rcases hs : s.buffers[w].state with _ | _ | k | _ | k | k | k | k
  case filling => exact ⟨rfl, rfl, rfl, rfl, if_pos rfl, rfl⟩
  case blind => exact ⟨rfl, rfl, rfl, rfl, rfl, rfl⟩
  all_goals rw [hs] at hc; cases hc

/-- What a counting write has left when it counts its beat, in a buffer that was counting already. -/
theorem Counting.kept {s u : State} {r : Request} {b : WriteBeat} {w : WindowNo} {n : Nat} (h : Counting s u r b w n)
    (hc : s.buffers[w].state.counting = true) :
    u.buffers = s.buffers ∧ u.queue = s.queue ∧ u.banks = s.banks ∧ flagsAdded s u (partialFlags b n)
    ∧ Outside [.link, .accrued] s u := by
  obtain ⟨state, count, queue, engine, banks, flags⟩ := counting_kept hc
  have kbuf : u.buffers = s.buffers := by
    rw [h.buffers, state, count]
    exact buffers_set_self _ _
  have kqueue : u.queue = s.queue := h.queue.trans queue
  have kbanks : u.banks = s.banks := h.banks.trans banks
  have kengine : u.engine = s.engine := h.engine.trans engine
  have kflags := h.flags
  rw [flags, List.append_nil] at kflags
  refine ⟨kbuf, kqueue, kbanks, kflags, fun p hp => ?_⟩
  cases p
  case buffers => exact kbuf
  case queue => exact kqueue
  case banks => exact kbanks
  case engine => exact kengine
  case link | accrued => exact absurd (by decide) hp
  all_goals exact h.outside _ (by decide)

/-- A frame of a FILLING buffer is completed: it is QUEUED (R34, R36). -/
theorem countingWrite_completes {s : State} {r : Request} {b : WriteBeat} {w : WindowNo} {y x0 n : Nat} {k : BankNo}
    (h : CountingWrite s r b w y x0 n) (hs : s.buffers[w].state = .filling k)
    (hn : s.windows[w].area ≤ s.buffers[w].written + (wholePixels b n).length) :
    ∃ t, exec (.requestReceived r) s = .next t ∧ t.link = joined s r
      ∧ t.buffers = s.buffers.set w { state := .queued k, written := s.buffers[w].written + (wholePixels b n).length }
      ∧ t.queue = s.queue ++ [w] ∧ flagsAdded s t (partialFlags b n)
      ∧ Outside [.link, .buffers, .queue, .banks, .accrued] s t := by
  refine ⟨_, exec_countingWrite h, ?_⟩
  have c := counting_spec (s := s) (r := r) (b := b) (w := w) (y := y) (x0 := x0) (n := n) (by rw [hs]; exact nofun)
  generalize State.beginCounting w _ = u at c ⊢
  obtain ⟨kbuf, kqueue, -, kflags, kframe⟩ := c.kept (by rw [hs]; rfl)
  have hwin : u.windows = s.windows := kframe .windows (by decide)
  have hu : u.buffers[(writeClass s r.requester w y x0 n b).window].state = .filling k := by rw [kbuf]; exact hs
  obtain ⟨buffers, queue, -, frame⟩ := countBeat_filling_spec hu
  have full : u.windows[(writeClass s r.requester w y x0 n b).window].area
      ≤ u.buffers[(writeClass s r.requester w y x0 n b).window].written
        + (writeClass s r.requester w y x0 n b).wholeWords.length := by
    rw [wholeWords_eq, kbuf, hwin]
    exact hn
  rw [if_pos full] at buffers queue
  refine ⟨(frame .link (by decide)).trans c.link, ?_, ?_, flagsAdded_congr_state kflags rfl (frame .accrued (by decide)),
    outside_step frame (by decide) (outside_mono kframe (by decide))⟩
  · rw [buffers, wholeWords_eq, kbuf]
    rfl
  · rw [queue, kqueue]
    rfl

/-- A frame of a BLIND buffer is completed: it is IDLE (R35). -/
theorem countingWrite_ends {s : State} {r : Request} {b : WriteBeat} {w : WindowNo} {y x0 n : Nat}
    (h : CountingWrite s r b w y x0 n) (hs : s.buffers[w].state = .blind)
    (hn : s.windows[w].area ≤ s.buffers[w].written + (wholePixels b n).length) :
    ∃ t, exec (.requestReceived r) s = .next t ∧ t.link = joined s r
      ∧ t.buffers = s.buffers.set w { state := .idle, written := 0 }
      ∧ flagsAdded s t (partialFlags b n ++ [.blind]) ∧ Outside [.link, .buffers, .accrued] s t := by
  refine ⟨_, exec_countingWrite h, ?_⟩
  have c := counting_spec (s := s) (r := r) (b := b) (w := w) (y := y) (x0 := x0) (n := n) (by rw [hs]; exact nofun)
  generalize State.beginCounting w _ = u at c ⊢
  obtain ⟨kbuf, -, -, kflags, kframe⟩ := c.kept (by rw [hs]; rfl)
  have hwin : u.windows = s.windows := kframe .windows (by decide)
  have hu : u.buffers[(writeClass s r.requester w y x0 n b).window].state = .blind := by rw [kbuf]; exact hs
  obtain ⟨buffers, flags, frame⟩ := countBeat_blind_spec hu
  have full : u.windows[(writeClass s r.requester w y x0 n b).window].area
      ≤ u.buffers[(writeClass s r.requester w y x0 n b).window].written
        + (writeClass s r.requester w y x0 n b).wholeWords.length := by
    rw [wholeWords_eq, kbuf, hwin]
    exact hn
  rw [if_pos full] at buffers flags
  refine ⟨(frame .link (by decide)).trans c.link, ?_, flagsAdded_trans kflags flags,
    outside_step frame (by decide) (outside_mono kframe (by decide))⟩
  rw [buffers, kbuf]
  rfl

/-- A beat in a window that counts nothing: it fails the filter, or has no whole pixel (R4, R25, R50). -/
theorem exec_write_uncounted {s : State} {r : Request} {b : WriteBeat} {w : WindowNo} {y x0 n : Nat} (hr : received s r)
    (hb : r.body = .write [b]) (hp : s.locate r.address.toNat = .window w y x0 n) :
    (filterPasses r.requester s.windows[w].writerMatch s.windows[w].writerMask = false →
      exec (.requestReceived r) s = .next { s with link := joined s r })
    ∧ (filterPasses r.requester s.windows[w].writerMatch s.windows[w].writerMask = true → wholePixels b n = [] →
        ∃ t, exec (.requestReceived r) s = .next t ∧ t.link = joined s r ∧ flagsAdded s t (partialFlags b n)
          ∧ Outside [.link, .accrued] s t) := by
  refine ⟨fun hf => ?_, fun hf hw => ⟨_, exec_write_window hr hb hp, ?_⟩⟩
  · rw [exec_write_window hr hb hp, writeBeat_filtered hf]
  · rw [writeBeat_ignored hf (Or.inl (by rw [wholeWords_eq]; exact hw))]
    exact ⟨outside_setFlagIf _ _ _ .link (by decide),
      flagsAdded_congr_state (flagsAdded_partial (writeClass s r.requester w y x0 n b) { s with link := joined s r }) rfl rfl,
      outside_step (outside_setFlagIf _ _ _) (by decide) (outside_mono (outside_link s _) (by decide))⟩

/-- Settles O14: the incomplete frame (`countingWrite_incomplete`), the two completions, and the writes that count nothing. -/
theorem countingWriteMovesTheBuffer : Obligations.CountingWriteMovesTheBuffer := by
  refine ⟨fun s r b w y x0 n h hd hn => ?_, fun s r b w y x0 n h hn =>
    ⟨fun k hs => countingWrite_completes h hs hn, fun hs => countingWrite_ends h hs hn⟩,
    fun s r b hr hb => ⟨fun hp => ?_, fun w y x0 n hp => exec_write_uncounted hr hb hp⟩⟩
  · obtain ⟨t, ht, link, buffers, flags, queue, engine, frame⟩ := countingWrite_incomplete h hd hn
    refine ⟨t, ht, link, fun v hv => ?_, ?_, ?_, queue, engine, frame⟩
    · rw [buffers, buffers_set_get, if_neg hv]
    · rw [buffers, buffers_set_get, if_pos rfl]
    · have state : t.buffers[w].state = begunState s w := by rw [buffers, buffers_set_get, if_pos rfl]
      rw [state]
      unfold begunState
      unfold begunFlags at flags
      rcases hs : s.buffers[w].state with _ | _ | k | _ | k | k | k | k
      case disabled => exact absurd hs hd
      all_goals
        rw [hs] at flags
        exact ⟨rfl, flags⟩
  · have place : (s.enqueue r).locate r.address.toNat = .unclassified := hp
    rw [exec_received hr, receive_write s r b hb, handWrite_unclassified place, enqueue_eq]

/-- Settles O15: the bank that the buffer holds once the write has begun takes the pixels of its beat
(`countInto_bankCounts`). -/
theorem pixelsEnterTheBank : Obligations.PixelsEnterTheBank := by
  intro s t r b w y x0 n k h hd ht hk
  rw [exec_countingWrite h] at ht
  have c := counting_spec (s := s) (r := r) (b := b) (w := w) (y := y) (x0 := x0) (n := n) hd
  cases ht
  generalize State.beginCounting w _ = u at c hk ⊢
  have hwin : u.windows = s.windows := c.outside .windows (by decide)
  have hgrid : u.grid = s.grid := c.outside .grid (by decide)
  have written {v : State} {x : Buffer} (h : v.buffers = u.buffers.set w x) : v.buffers[w] = x := by
    rw [h, buffers_set_get, if_pos rfl]
  rcases begunState_counting s w hd with ⟨j, hj⟩ | hblind
  · have hu : u.buffers[(writeClass s r.requester w y x0 n b).window].state = .filling j := c.state.trans hj
    obtain ⟨buffers, -, banks, -⟩ := countBeat_filling_spec hu
    have hjk : j = k := by
      rw [written buffers] at hk
      dsimp only at hk
      split at hk <;> simpa [BufferState.bank] using hk
    subst hjk
    have start : u.banks[j]
        = if s.buffers[w].state = .filling j then s.banks[j]
          else { threshold := s.brightThreshold, zones := ZoneTable.empty } := by
      rw [c.banks, begunBanks, hj]
      dsimp only [BufferState.bank]
      split
      · rfl
      · rw [banks_set_get, if_pos rfl]
    have other (i : BankNo) (hi : i ≠ j) : u.banks[i] = s.banks[i] := by
      rw [c.banks, begunBanks, hj]
      dsimp only [BufferState.bank]
      split
      · rfl
      · rw [banks_set_get, if_neg hi]
    rw [banks]
    refine ⟨?_, fun i hi => by rw [banks_set_get, if_neg hi, other i hi]⟩
    rw [banks_set_get, if_pos rfl, ← start]
    exact countInto_bankCounts hwin hgrid (writeClass s r.requester w y x0 n b) u.banks[j]
  · have hu : u.buffers[(writeClass s r.requester w y x0 n b).window].state = .blind := c.state.trans hblind
    obtain ⟨buffers, -⟩ := countBeat_blind_spec hu
    rw [written buffers] at hk
    split at hk <;> cases hk

end Sys2Proof.Laws
end

section
/-! SUPPORT. Sequencer steps, samples, overcurrent and the figures derived from protection (chapter 8). -/

namespace Sys2Proof.Laws

-- Each proof may wait for an earlier one; run one after another they need no thread each.
set_option Elab.async false

open Sys2Proof Sys2Proof.Machine Sys2Proof.Safety

/-! ### Sequencer steps (R133, R135) -/

theorem stopped_reached (n : Nat) : Timer.stopped.reached n = false := rfl

theorem running_reached (n e : Nat) : (Timer.running e).reached n = decide (n ≤ e) := rfl

/-- POWER_UP_STEP with a line left to start and the step timer RUNNING. -/
theorem exec_powerUpStep {s : State} (hs : live s) {l last : LineNo} {rest : List LineNo} {e : Nat}
    (hq : s.protection.sequencer = .up (l :: rest) last) (ht : s.protection.stepTimer = .running e) :
    exec .powerUpStep s
      = .next (if s.limits.slotUs ≤ e then (s.setSequencer (.up rest l) (stepTimerFor rest)).startOrder l else s) := by
  refine congrArg Host.Outcome.next ((whenLive_live hs _).trans ?_)
  simp only [hq, ht, running_reached, decide_eq_true_eq]

/-- POWER_UP_STEP with no line left to start, outside a power-up, or with the step timer STOPPED. -/
theorem exec_powerUpStep_idle {s : State} (hs : live s)
    (h : (∀ l rest last, s.protection.sequencer ≠ .up (l :: rest) last) ∨ s.protection.stepTimer = .stopped) :
    exec .powerUpStep s = .next s := by
  refine congrArg Host.Outcome.next ((whenLive_live hs _).trans ?_)
  rcases hq : s.protection.sequencer with _ | ⟨_ | ⟨l, rest⟩, last⟩ | _ | _
  case up.cons =>
    rcases h with h | h
    · exact absurd hq (h l rest last)
    · dsimp only
      rw [h]
      rfl
  all_goals rfl

/-- POWER_DOWN_STEP, in the terms of its condition. -/
theorem exec_powerDownStep {s : State} (hs : live s) :
    exec .powerDownStep s
      = .next (if s.protection.sequencer = .dropping ∧ s.protection.stepTimer.reached s.limits.slotUs = true then s.dropOne
          else s) :=
  congrArg Host.Outcome.next (whenLive_live hs _)

/-- Dropping the highest of several RUNNING lines. -/
theorem dropOne_more {s : State} {l m : LineNo} (hl : s.lines[l].state = .running)
    (hh : ∀ m : LineNo, l < m → s.lines[m].state ≠ .running) (hm : m < l) (hr : s.lines[m].state = .running) :
    s.dropOne
      = { s with
          lines := s.lines.set l (stoppedLine s.lines[l])
          protection := { s.protection with sequencer := .dropping, stepTimer := .running 0 } } := by
  have left : (s.stopOrder l).lines[m].state = .running := by
    rw [stopOrder_get, if_neg fun e => absurd e.1 (ne_of_lt hm)]
    exact hr
  obtain ⟨k, hk⟩ := highestRunning_isSome (s.stopOrder l) m left
  unfold State.dropOne
  rw [highestRunning_eq s l hl hh]
  dsimp only
  rw [hk, stopOrder_running l s hl]
  rfl

/-- Dropping the last RUNNING line. -/
theorem dropOne_last {s : State} {l : LineNo} (hl : s.lines[l].state = .running)
    (hh : ∀ m : LineNo, l < m → s.lines[m].state ≠ .running) (hm : ∀ m : LineNo, m < l → s.lines[m].state ≠ .running)
    (hb : s.protection.backlight ≠ .off) :
    s.dropOne.lines = s.lines.set l (stoppedLine s.lines[l])
    ∧ PowerDownEnds { s with lines := s.lines.set l (stoppedLine s.lines[l]) } s.dropOne := by
  have stopped : s.stopOrder l = { s with lines := s.lines.set l (stoppedLine s.lines[l]) } := stopOrder_running l s hl
  have none : ∀ m : LineNo, (s.stopOrder l).lines[m].state ≠ .running := fun m => by
    rw [stopOrder_get]
    split
    · exact nofun
    · next hn =>
      rcases lt_trichotomy m l with h | h | h
      · exact hm m h
      · exact absurd ⟨h, by rw [hl]; decide, by rw [hl]; decide⟩ hn
      · exact hh m h
  unfold State.dropOne
  rw [highestRunning_eq s l hl hh]
  dsimp only
  rw [highestRunning_none _ none]
  rw [stopped] at none ⊢
  exact powerDownEnd_spec _ hb none

/-- Settles O33, step by step of the sequencer. -/
theorem sequencerSteps : Obligations.SequencerSteps := by
  refine ⟨fun s hs => ⟨exec_powerUpStep_idle hs, fun h => ?_⟩, fun s l last rest e hs hq ht => ?_, fun s l e hs hq ht hl hh => ?_⟩
  · rw [exec_powerDownStep hs, if_neg]
    rintro ⟨hq, ht⟩
    rcases h with h | h
    · exact h hq
    · rw [h] at ht
      cases ht
  · rw [exec_powerUpStep hs hq ht]
    refine ⟨fun he => by rw [if_neg (by omega)], fun he => ?_⟩
    rw [if_pos he, startOrder_eq]
    rfl
  · rw [exec_powerDownStep hs, ht, running_reached]
    refine ⟨fun he => ?_, fun he ⟨m, hm, hr⟩ => ?_, fun he hm hb => ?_⟩
    · rw [if_neg fun h => by have := of_decide_eq_true h.2; omega]
    · rw [if_pos ⟨hq, decide_eq_true he⟩, dropOne_more hl hh hm hr, ← hq]
    · rw [if_pos ⟨hq, decide_eq_true he⟩]
      obtain ⟨lines, protection, events, flags⟩ := dropOne_last hl hh hm (by rw [hb]; decide)
      exact ⟨_, rfl, lines, protection, events, flags, outside_mono (outside_dropOne s) (by decide)⟩

/-! ### The derived figures (R144 to R146, R169) -/

theorem clampTo_le (lo hi x : Nat) (h : lo ≤ hi) : clampTo lo hi x ≤ hi := by
  rw [clampTo_eq lo hi x h]
  exact Nat.min_le_left _ _

/-- The figures of LIMITS that bound duties lie in their ranges, whatever the record holds (R148). -/
theorem limits_bounds (s : State) :
    s.limits.safeDuty ≤ 4095 ∧ s.limits.fallbackDuty ≤ 4095 ∧ s.limits.budgetNormal ≤ Config.fullBudget
    ∧ s.limits.warmCap ≤ Config.fullBudget ∧ s.limits.supplyCap ≤ Config.fullBudget := by
  unfold State.limits
  split
  · exact ⟨clampTo_le _ _ _ (by decide), clampTo_le _ _ _ (by decide), clampTo_le _ _ _ (by decide),
      clampTo_le _ _ _ (by decide), clampTo_le _ _ _ (by decide)⟩
  · decide

theorem ceiling_falling {s : State} (h : s.protection.backlight = .poweringDown) : s.ceiling = 0 := if_pos h

theorem ceiling_hot {s : State} (h : s.protection.backlight ≠ .poweringDown) (ht : s.protection.thermal = .hot) :
    s.ceiling = s.limits.safeDuty := (if_neg h).trans (if_pos ht)

theorem ceiling_cool {s : State} (h : s.protection.backlight ≠ .poweringDown) (ht : s.protection.thermal ≠ .hot) :
    s.ceiling = 4095 := (if_neg h).trans (if_neg ht)

theorem ceiling_le (s : State) : s.ceiling ≤ 4095 := by
  by_cases h : s.protection.backlight = .poweringDown
  · rw [ceiling_falling h]
    decide
  · by_cases ht : s.protection.thermal = .hot
    · rw [ceiling_hot h ht]
      exact (limits_bounds s).1
    · rw [ceiling_cool h ht]

/-- The ceiling is a figure of protection and tables. -/
theorem ceiling_congr {s t : State} (hp : t.protection = s.protection) (ht : t.tables = s.tables) : t.ceiling = s.ceiling := by
  unfold State.ceiling State.limits
  rw [hp, ht]

theorem blanked_iff (s : State) :
    s.blanked = true
      ↔ s.protection.backlight = .off ∨ s.protection.backlight = .thermalOff ∨ s.protection.backlight = .latchedOff
        ∨ s.protection.trip ≠ none ∨ s.protection.supply = .uv ∨ s.protection.uvLatch = true := by
  simp [State.blanked, State.uvAsserted, or_assoc, Option.isSome_iff_ne_none]

theorem alerted_iff (s : State) :
    s.alerted = true
      ↔ s.limits.criticalLevel ≤ s.events.length ∨ s.protection.backlight = .latchedOff
        ∨ (∃ l : LineNo, s.lines[l].state = .locked) ∨ ∃ q, s.protection.trip = some q ∧ q.mode = .manual := by
  unfold State.alerted
  rcases s.protection.trip with _ | q
  · simp [or_assoc]
  · simp [or_assoc]

/-- Settles O39, figure by figure. -/
theorem derivedFiguresOfProtection : Obligations.DerivedFiguresOfProtection := by
  intro s
  obtain ⟨-, -, normal, warm, supply⟩ := limits_bounds s
  refine ⟨ceiling_falling, ceiling_hot, ceiling_cool, ceiling_le s, fun h => ?_, fun ht hy => ?_, fun ht hy => ?_,
    fun ht hy => ?_, fun ht hy => ?_, blanked_iff s, alerted_iff s⟩
  · have limits : s.limits = defaultLimits := if_neg h
    unfold State.budgetCap
    rw [limits]
    exact ⟨by split <;> split <;> rfl, rfl, rfl⟩
  · unfold State.budgetCap
    simp only [ht, hy, if_true, min_self]
    exact Nat.min_eq_left normal
  · unfold State.budgetCap
    simp only [ht, hy, if_true, if_false, Nat.min_eq_left warm]
  · unfold State.budgetCap
    simp only [ht, hy, if_true, if_false, Nat.min_eq_right supply]
  · unfold State.budgetCap
    simp only [ht, hy, if_false]

/-! ### Samples (R136 to R141) -/

/-- What ANALOG_SAMPLE does. -/
theorem exec_analogSample {s : State} (hs : live s) (c : SampleSet) :
    exec (.analogSample c) s = .next ((sampled s c).evalThermal.evalSupply.settleCeiling s.ceiling) := by
  refine congrArg Host.Outcome.next ((whenLive_live hs _).trans ?_)
  unfold State.sample
  dsimp only
  rw [tickMs_sampled]

/-- A blanked backlight is one in UV, or dark. -/
theorem blanked_of_uv {t : State} (h : t.protection.supply = .uv) : t.blanked = true := by
  simp [State.blanked, State.uvAsserted, h]

/-- Neither the thermal table nor SHUTDOWN's count touches the lines outside SHUTDOWN. -/
theorem evalThermal_moves {s : State} {x : Thermal} (h : s.protection.thermal ≠ .shutdown)
    (hx : thermalNext s.limits s.protection.codes s.protection.thermal = x) (hn : x ≠ .shutdown) :
    s.evalThermal = s.setThermal x := by
  unfold State.evalThermal
  rcases ht : s.protection.thermal with _ | _ | _ | _
  case shutdown => exact absurd ht h
  all_goals
    rw [ht] at hx
    dsimp only
    rw [hx]
    cases x
    case shutdown => exact absurd rfl hn
    all_goals rfl

theorem evalThermal_enters {s : State} (h : s.protection.thermal ≠ .shutdown)
    (hx : thermalNext s.limits s.protection.codes s.protection.thermal = .shutdown) : s.evalThermal = s.enterShutdown := by
  unfold State.evalThermal
  rcases ht : s.protection.thermal with _ | _ | _ | _
  case shutdown => exact absurd ht h
  all_goals
    rw [ht] at hx
    dsimp only
    rw [hx]

theorem coolSample_iff (m : Limits) (c : SampleSet) :
    coolSample m c = true
      ↔ max c.tb0.toNat c.tb1.toNat + m.thermalHysteresis < m.hot ∧ c.tdie.toNat + m.thermalHysteresis < m.dieLimit := by
  unfold coolSample boardTemp
  rw [Bool.and_eq_true, decide_eq_true_eq, decide_eq_true_eq]

theorem evalThermal_leaves {s : State} (h : s.protection.thermal = .shutdown) (hc : coolSample s.limits s.protection.codes = true)
    (hn : 999 ≤ s.protection.coolDown) : s.evalThermal = s.leaveShutdown := by
  unfold State.evalThermal
  rw [h]
  dsimp only
  rw [if_pos hc, if_pos (by omega)]

theorem evalThermal_cools {s : State} (h : s.protection.thermal = .shutdown)
    (hn : s.protection.coolDown < 999 ∨ ¬coolSample s.limits s.protection.codes = true) :
    s.evalThermal
      = s.setCoolDown (if coolSample s.limits s.protection.codes = true then s.protection.coolDown + 1 else 0) := by
  unfold State.evalThermal
  rw [h]
  dsimp only
  by_cases hc : coolSample s.limits s.protection.codes = true
  · rw [if_pos hc, if_pos hc, if_neg]
    rcases hn with hn | hn
    · omega
    · exact absurd hc hn
  · rw [if_neg hc, if_neg hc]

/-- A change of the thermal state, or none (R137). -/
theorem setThermal_moved (x : Thermal) (s : State) :
    (s.setThermal x).protection = { s.protection with thermal := x }
    ∧ (s.setThermal x).events
        = (if x = s.protection.thermal then s.events
          else eventsAfter s.events s.ms .thermalState .none (thermalCode x))
    ∧ flagsAdded s (s.setThermal x) (if x = s.protection.thermal then [] else overrun s) := by
  by_cases h : x = s.protection.thermal
  · rw [show s.setThermal x = s from if_pos h.symm, if_pos h, if_pos h, h]
    exact ⟨rfl, rfl, flagsAdded_refl s⟩
  · have e : s.setThermal x
        = ({ s with protection := { s.protection with thermal := x } }).addEvent .thermalState .none (thermalCode x) :=
      if_neg fun e => h e.symm
    rw [e, if_neg h, if_neg h]
    exact ⟨addEvent_protection .., rfl, flagsAdded_addEvent _ _ _ _⟩

/-- The pieces that a sample's evaluations may touch. -/
abbrev evalPieces : List Piece := [.protection, .lines, .events, .accrued]

/-- A sample's last part: it signals a changed ceiling, after evaluations that led from the sampled state to `v` (R145). -/
theorem settled_sample {s v : State} {c : SampleSet} (h : Outside evalPieces (sampled s c) v) :
    let t := v.settleCeiling s.ceiling
    t.ms = s.ms + 1 ∧ t.scan = { s.scan with supervision := s.scan.supervision.tick }
    ∧ t.protection = v.protection ∧ t.events = v.events ∧ (∀ f, t.flag f = v.flag f) ∧ t.ceiling = v.ceiling
    ∧ (∀ l : LineNo,
        t.lines[l]
          = if t.ceiling ≠ s.ceiling ∧ v.lines[l].state = .running then markedLine (s.driverCount l) v.lines[l]
            else v.lines[l])
    ∧ Outside [.lines] v t ∧ Outside [.ms, .scan, .lines, .protection, .events, .accrued] s t := by
  intro t
  have frame : Outside [.lines] v t := outside_settleCeiling _ v
  have ceiling : t.ceiling = v.ceiling := ceiling_congr (frame .protection (by decide)) (frame .tables (by decide))
  have drivers (l : LineNo) : v.driverCount l = s.driverCount l := by
    unfold State.driverCount
    rw [show v.tables = s.tables from h .tables (by decide)]
  refine ⟨(frame .ms (by decide)).trans (h .ms (by decide)), (frame .scan (by decide)).trans (h .scan (by decide)),
    frame .protection (by decide), frame .events (by decide), fun f => ?_, ceiling, fun l => ?_, frame, ?_⟩
  · unfold State.flag
    rw [show t.accrued = v.accrued from frame .accrued (by decide)]
  · rw [ceiling, ← drivers l]
    exact settleCeiling_get _ v l
  · have ticked : Outside [.ms, .scan, .lines, .protection, .events, .accrued] s (sampled s c) := fun p hp => by
      cases p <;> first | rfl | exact absurd (by decide) hp
    exact outside_step frame (by decide) (outside_step h (by decide) ticked)

/-! The comparisons of R137, which are signed, in the model's terms. -/

theorem temp_reaches (c : SampleSet) (n : Nat) : (n : Int) ≤ max (c.tb0.toNat : Int) c.tb1.toNat ↔ n ≤ boardTemp c := by
  unfold boardTemp
  omega

theorem temp_below (c : SampleSet) (n k : Nat) :
    max (c.tb0.toNat : Int) c.tb1.toNat < (n : Int) - (k : Int) ↔ boardTemp c + k < n := by
  unfold boardTemp
  omega

/-- The first row of R137 is the only one that leads to SHUTDOWN. -/
theorem thermalNext_shutdown (m : Limits) (c : SampleSet) {now : Thermal} (hn : now ≠ .shutdown) :
    thermalNext m c now = .shutdown ↔ m.shutdown ≤ boardTemp c ∨ m.dieLimit ≤ c.tdie.toNat := by
  unfold thermalNext
  cases now
  case shutdown => exact absurd rfl hn
  all_goals
    dsimp only
    split
    · next h => exact iff_of_true rfl h
    · next h =>
      refine iff_of_false ?_ h
      split_ifs <;> exact nofun

theorem supplyEvent_eq (y : Supply) : supplyEvent y = supplyKind y := by cases y <;> rfl

/-- The limits in force come from the tables alone. -/
theorem limits_congr {s t : State} (h : t.tables = s.tables) : t.limits = s.limits := by
  unfold State.limits
  rw [h]

theorem mem_flagIf {c : Prop} [Decidable c] {f g : Flag} : (f ∈ if c then [g] else []) ↔ c ∧ f = g := by
  split
  · next h => simp [h]
  · next h => simp [h]

theorem mem_overrun {s : State} {f : Flag} : f ∈ overrun s ↔ 32 ≤ s.events.length ∧ f = .eventOverrun := mem_flagIf

/-- UV_SEEN before the flags of the event of a change of supply state. -/
theorem mem_uvFlags {y : Supply} {fs : List Flag} {f : Flag} :
    (f ∈ if y = .uv then .uvSeen :: fs else fs) ↔ (f ∈ if y = .uv then [.uvSeen] else []) ∨ f ∈ fs := by
  split
  · simp
  · simp

/-- The flags of a sample that adds a thermal event unless `same`, then a supply event unless `kept`. -/
theorem mem_sampleFlags {s u : State} {y : Supply} (same kept : Prop) [Decidable same] [Decidable kept]
    (length : u.events.length = if same then s.events.length else min s.events.length 31 + 1) (f : Flag) :
    let added := (if same then 0 else 1) + if kept then 0 else 1
    (f ∈ (if same then [] else overrun s) ++ if ¬kept then (if y = .uv then .uvSeen :: overrun u else overrun u) else [])
      ↔ f ∈ (if ¬kept ∧ y = .uv then [.uvSeen] else [])
          ++ if 1 ≤ added ∧ 32 < s.events.length + added then [.eventOverrun] else [] := by
  by_cases hx : same
  · rw [if_pos hx] at length
    by_cases hy : kept
    · simp [hx, hy]
    · have full : (1 ≤ 0 + 1 ∧ 32 < s.events.length + (0 + 1)) ↔ 32 ≤ s.events.length := by omega
      simp only [hx, hy, not_false_eq_true, true_and, if_true, if_false, mem_uvFlags, List.mem_append, mem_overrun,
        mem_flagIf, length, List.not_mem_nil, false_or, full]
  · rw [if_neg hx] at length
    by_cases hy : kept
    · have full : (1 ≤ 1 + 0 ∧ 32 < s.events.length + (1 + 0)) ↔ 32 ≤ s.events.length := by omega
      simp only [hx, hy, not_true_eq_false, false_and, if_true, if_false, List.mem_append, mem_overrun,
        mem_flagIf, List.not_mem_nil, false_or, or_false, full]
    · have full : (1 ≤ 1 + 1 ∧ 32 < s.events.length + (1 + 1))
          ↔ (32 ≤ s.events.length ∨ 32 ≤ min s.events.length 31 + 1) := by omega
      simp only [hx, hy, not_false_eq_true, true_and, if_true, if_false, mem_uvFlags, List.mem_append, mem_overrun,
        mem_flagIf, length, full, or_and_right]
      exact or_left_comm

/-- Settles O34: the tables of R137 and R140 by their rows, the sample through `evalThermal_moves`, `evalSupply_spec` and
`settled_sample`. -/
theorem sampleMovesThermalAndSupply : Obligations.SampleMovesThermalAndSupply := by
  refine ⟨fun m c => ⟨fun now hn => ?_, fun h => ?_⟩, fun m v => ⟨rfl, rfl, rfl⟩, fun s c x y hs hn hx hxn hy => ?_⟩
  · rw [temp_reaches]
    exact thermalNext_shutdown m c hn
  · rw [temp_reaches] at h
    simp only [temp_reaches, temp_below]
    exact ⟨if_neg h, if_neg h, if_neg h⟩
  · have out : (sampled s c).protection.thermal ≠ .shutdown := hn
    have reached : thermalNext (sampled s c).limits (sampled s c).protection.codes (sampled s c).protection.thermal = x := hx
    rw [exec_analogSample hs, evalThermal_moves out reached hxn]
    obtain ⟨xp, xe, xf⟩ := setThermal_moved x (sampled s c)
    have xo : Outside [.protection, .events, .accrued] (sampled s c) ((sampled s c).setThermal x) := outside_setThermal _ _
    generalize (sampled s c).setThermal x = u at xp xe xf xo ⊢
    have limits : u.limits = s.limits := limits_congr (xo .tables (by decide))
    have ms : u.ms = s.ms + 1 := xo .ms (by decide)
    obtain ⟨yp, ye, yf⟩ := evalSupply_spec u
    have hu : supplyNext u.limits u.protection.codes.vled.toNat u.protection.supply = y := by
      rw [limits, xp]
      exact hy
    rw [hu] at yp ye yf
    have yo := outside_evalSupply u
    generalize u.evalSupply = v at yp ye yf yo ⊢
    have lines : v.lines = s.lines.map lineAfterMs := (yo .lines (by decide)).trans (xo .lines (by decide))
    obtain ⟨tms, tscan, tp, te, tf, -, tl, -, tframe⟩ := settled_sample (s := s) (c := c) (v := v)
      (outside_step yo (by decide) (outside_mono xo (by decide)))
    have thermal : u.protection.supply = s.protection.supply := by rw [xp]; rfl
    refine ⟨_, rfl, tms, ?_, ?_, ?_, fun hu => blanked_of_uv ?_, tscan, fun l => ?_, tframe⟩
    · rw [tp, yp, xp, limits]
      rfl
    · rw [te, ye, thermal, xe, xp, ms, ite_not]
      rfl
    · have added := flagsAdded_trans (flagsAdded_congr_state xf (s' := s) (t' := u) rfl rfl) yf
      refine flagsAdded_congr (fun f => (tf f).trans (added f)) fun f => ?_
      have length : u.events.length
          = if x = s.protection.thermal then s.events.length else min s.events.length 31 + 1 := by
        rw [xe]
        split
        · next h => rw [if_pos (show x = s.protection.thermal from h)]; rfl
        · next h => rw [if_neg (show ¬x = s.protection.thermal from h), length_eventsAfter]; rfl
      have first : overrun (sampled s c) = overrun s := rfl
      have same : (sampled s c).protection.thermal = s.protection.thermal := rfl
      rw [first, same, thermal]
      exact mem_sampleFlags _ _ length f
    · rw [tp, yp]
      exact hu
    · rw [tl l, lines]
      simp only [Fin.getElem_fin, Vector.getElem_map]
      rfl

/-- Protection, events and flags alone decide whether a supply evaluation is told right. -/
theorem supplyEvaluated_congr {b v t : State} (h : SupplyEvaluated b v) (hp : t.protection = v.protection)
    (he : t.events = v.events) (hf : ∀ f, t.flag f = v.flag f) : SupplyEvaluated b t := by
  obtain ⟨p, e, f⟩ := h
  exact ⟨hp.trans p, he.trans e, fun g => (hf g).trans (f g)⟩

/-- A backlight after the entry into SHUTDOWN is dark (R138). -/
theorem shutdown_dark {a b : State} (h : ShutdownEntered a b) :
    b.protection.backlight = .off ∨ b.protection.backlight = .thermalOff ∨ b.protection.backlight = .latchedOff := by
  obtain ⟨protection, -⟩ := h
  rw [protection]
  dsimp only
  split
  · exact Or.inr (Or.inr rfl)
  · split
    · exact Or.inr (Or.inl rfl)
    · next h =>
      rcases hb : a.protection.backlight with _ | _ | _ | _ | _ | _
      all_goals simp [lightsUp, hb] at h ⊢

/-- Every line that a shutdown finds under a lit backlight is OFF or LOCKED after it (R138). -/
theorem shutdown_lines {a b : State} (h : ShutdownEntered a b) (hl : lightsUp a.protection.backlight) (l : LineNo) :
    b.lines[l].state = if a.lines[l].state = .locked then .locked else .off := by
  obtain ⟨-, lines, -⟩ := h
  rw [lines, if_pos hl]
  simp only [Fin.getElem_fin, Vector.getElem_map]
  split
  · next h => rcases h with h | h <;> simp [h]
  · next h =>
    rw [if_neg fun e => h (Or.inr e)]
    rfl

/-- Settles O35 (`enterShutdown_spec`, `evalSupply_spec`, `settled_sample`). -/
theorem shutdownStopsEveryLine : Obligations.ShutdownStopsEveryLine := by
  intro s c hs hn hx
  have entered := enterShutdown_spec (sampled s c) hn
  have supply := evalSupply_spec (sampled s c).enterShutdown
  rw [exec_analogSample hs, evalThermal_enters (s := sampled s c) hn hx]
  have bo := outside_enterShutdown (sampled s c)
  generalize (sampled s c).enterShutdown = b at entered supply bo ⊢
  have vo := outside_evalSupply b
  generalize b.evalSupply = v at supply vo ⊢
  obtain ⟨-, -, tp, te, tf, -, tl, tframe, -⟩ := settled_sample (s := s) (c := c) (v := v)
    (outside_step vo (by decide) (outside_mono bo (by decide)))
  have lines : v.lines = b.lines := vo .lines (by decide)
  have told : SupplyEvaluated b (v.settleCeiling s.ceiling) := supplyEvaluated_congr supply tp te tf
  rw [lines] at tl
  have protection := told.1
  refine ⟨b, _, rfl, entered, told, tl, ?_, ?_, fun hl l => ?_, outside_step tframe (by decide) (outside_mono vo (by decide))⟩
  · rw [blanked_iff, protection]
    rcases shutdown_dark entered with h | h | h
    · exact Or.inl h
    · exact Or.inr (Or.inl h)
    · exact Or.inr (Or.inr (Or.inl h))
  · rw [protection]
    obtain ⟨bp, -⟩ := entered
    rw [bp]
    rfl
  · have dark : b.lines[l].state = if s.lines[l].state = .locked then .locked else .off := by
      rw [shutdown_lines entered hl l]
      show (if ((s.lines.map lineAfterMs)[l]).state = .locked then LineState.locked else .off) = _
      simp only [Fin.getElem_fin, Vector.getElem_map]
      rfl
    have state : (v.settleCeiling s.ceiling).lines[l].state = if s.lines[l].state = .locked then .locked else .off := by
      rw [tl l, if_neg]
      · exact dark
      · rintro ⟨-, hr⟩
        rw [dark] at hr
        split at hr <;> cases hr
    refine ⟨state, ?_⟩
    unfold State.len
    rw [state]
    split <;> rfl

/-- A sample in SHUTDOWN leaves the ceiling where it was, so it marks no line (R145). -/
theorem settleCeiling_same {s v : State} (h : v.ceiling = s.ceiling) : v.settleCeiling s.ceiling = v := if_pos h

/-- The ceiling of one backlight that is not falling is that of another, outside HOT. -/
theorem ceiling_cool_same {s v : State} (hf : v.protection.backlight = .poweringDown ↔ s.protection.backlight = .poweringDown)
    (hs : s.protection.thermal ≠ .hot) (hv : v.protection.thermal ≠ .hot) : v.ceiling = s.ceiling := by
  by_cases h : s.protection.backlight = .poweringDown
  · rw [ceiling_falling h, ceiling_falling (hf.2 h)]
  · rw [ceiling_cool h hs, ceiling_cool (fun e => h (hf.1 e)) hv]

theorem supplyEvaluated_power {b v : State} (h : SupplyEvaluated b v) :
    v.protection.backlight = b.protection.backlight ∧ v.protection.thermal = b.protection.thermal := by
  obtain ⟨protection, -⟩ := h
  rw [protection]
  exact ⟨rfl, rfl⟩

/-- The end of SHUTDOWN neither begins nor ends a power-down, and leaves a state below HOT (R139). -/
theorem shutdownLeft_power {a b : State} (h : ShutdownLeft a b) :
    (b.protection.backlight = .poweringDown ↔ a.protection.backlight = .poweringDown) ∧ b.protection.thermal ≠ .hot := by
  obtain ⟨u, up, -, -, -, kept, powers, rests⟩ := h
  have cool : (if a.limits.warm ≤ boardTemp a.protection.codes + a.limits.thermalHysteresis then Thermal.warm else .normal)
      ≠ .hot := by
    split <;> exact nofun
  by_cases hb : a.protection.backlight = .thermalOff
  · rw [hb]
    by_cases hp : a.protection.target = true ∧ a.tables.zoneMapState = .valid ∧ a.tables.lineSetupState = .valid
        ∧ a.tables.limitsState = .valid
    · obtain ⟨⟨first, none⟩, -⟩ := powers hb hp
      dsimp only at first none
      generalize ((List.finRange 16).filter fun m => decide (0 < u.driverCount m ∧ u.lines[m].state ≠ .locked)) = used
        at first none
      rcases used with _ | ⟨l, rest⟩
      · rw [(none rfl).1, up]
        exact ⟨iff_of_false nofun nofun, cool⟩
      · rw [(first l rest rfl).1, up]
        exact ⟨iff_of_false nofun nofun, cool⟩
    · rw [(rests hb hp).1, up]
      exact ⟨iff_of_false nofun nofun, cool⟩
  · rw [kept hb, up]
    exact ⟨Iff.rfl, cool⟩

/-- Settles O36: the sample that ends SHUTDOWN through `leaveShutdown_spec`, the others by the count. -/
theorem coolDownLeavesShutdown : Obligations.CoolDownLeavesShutdown := by
  refine ⟨fun s c hs ht hn hc hd => ?_, fun s c y hs ht hn hy => ?_⟩
  · have cool : coolSample s.limits c = true := (coolSample_iff _ _).2 ⟨hc, hd⟩
    have same : exec (.coolDownEnd c) s = exec (.analogSample c) s := by
      refine congrArg Host.Outcome.next ((whenLive_live hs _).trans (Eq.trans ?_ (whenLive_live hs _).symm))
      exact if_pos ⟨ht, by omega, cool⟩
    have left := leaveShutdown_spec (sampled s c) ht
    have supply := evalSupply_spec (sampled s c).leaveShutdown
    have vo := outside_evalSupply (sampled s c).leaveShutdown
    rw [same, exec_analogSample hs, evalThermal_leaves (s := sampled s c) ht cool (by show 999 ≤ s.protection.coolDown; omega)]
    generalize (sampled s c).leaveShutdown = b at left supply vo ⊢
    obtain ⟨falling, thermal⟩ := shutdownLeft_power left
    have ceiling : b.evalSupply.ceiling = s.ceiling := by
      obtain ⟨vb, vt⟩ := supplyEvaluated_power supply
      exact ceiling_cool_same (by rw [vb]; exact falling) (by rw [ht]; decide) (by rw [vt]; exact thermal)
    rw [settleCeiling_same ceiling]
    exact ⟨b, _, rfl, rfl, left, supply, vo⟩
  · have cools : (sampled s c).protection.coolDown < 999
        ∨ ¬coolSample (sampled s c).limits (sampled s c).protection.codes = true := by
      rw [coolSample_iff]
      exact hn
    have idle : exec (.coolDownEnd c) s = .next s := by
      refine congrArg Host.Outcome.next ((whenLive_live hs _).trans (if_neg ?_))
      rintro ⟨-, hd, hc⟩
      rcases cools with h | h
      · exact absurd hd (by show ¬1000 ≤ (sampled s c).protection.coolDown + 1; omega)
      · exact h hc
    refine ⟨idle, ?_⟩
    rw [exec_analogSample hs, evalThermal_cools (s := sampled s c) ht cools]
    generalize hk : (if coolSample (sampled s c).limits (sampled s c).protection.codes = true then
      (sampled s c).protection.coolDown + 1 else 0) = k
    have count : k = if max c.tb0.toNat c.tb1.toNat + s.limits.thermalHysteresis < s.limits.hot
        ∧ c.tdie.toNat + s.limits.thermalHysteresis < s.limits.dieLimit then s.protection.coolDown + 1 else 0 := by
      rw [← hk]
      exact if_congr (coolSample_iff _ _) rfl rfl
    obtain ⟨yp, ye, yf⟩ := evalSupply_spec ((sampled s c).setCoolDown k)
    have vo := outside_evalSupply ((sampled s c).setCoolDown k)
    obtain ⟨vb, vt⟩ := supplyEvaluated_power ⟨yp, ye, yf⟩
    have ceiling : ((sampled s c).setCoolDown k).evalSupply.ceiling = s.ceiling :=
      ceiling_cool_same (by rw [vb]; exact Iff.rfl) (by rw [ht]; decide) (by rw [vt]; exact ht ▸ nofun)
    have hu : supplyNext ((sampled s c).setCoolDown k).limits ((sampled s c).setCoolDown k).protection.codes.vled.toNat
        ((sampled s c).setCoolDown k).protection.supply = y := hy
    rw [hu] at yp ye yf
    obtain ⟨tms, tscan, -, -, -, -, -, -, tframe⟩ := settled_sample (s := s) (c := c)
      (v := ((sampled s c).setCoolDown k).evalSupply)
      (outside_step vo (by decide) (outside_mono (outside_setCoolDown k _) (by decide)))
    have lines : ((sampled s c).setCoolDown k).evalSupply.lines = s.lines.map lineAfterMs := vo .lines (by decide)
    rw [settleCeiling_same ceiling] at tms tscan tframe ⊢
    refine ⟨_, rfl, tms, ?_, ?_, ?_, tscan, fun l => ?_, tframe⟩
    · rw [yp, count]
      rfl
    · rw [ye, ite_not]
      rfl
    · refine flagsAdded_congr (flagsAdded_congr_state yf rfl rfl) fun f => ?_
      rw [ite_not]
      rfl
    · rw [lines]
      simp only [Fin.getElem_fin, Vector.getElem_map]

/-! ### Overcurrent (R142, R143) -/

/-- One microsecond of the timers (assumption 6). -/
theorem tickUs_eq (s : State) :
    s.tickUs
      = { s with
          protection :=
            { s.protection with
              stepTimer := s.protection.stepTimer.tick
              trip := s.protection.trip.map fun q => { q with elapsed := q.elapsed + 1 }
              sinceLatch := s.protection.sinceLatch.map (· + 1) }
          lines := s.lines.map lineAfterUs } :=
  forLines_map lineUs _

theorem ocBlanked_iff (s : State) : s.ocBlanked = true ↔ ∃ e, s.protection.sinceLatch = some e ∧ e < s.limits.blankUs := by
  unfold State.ocBlanked
  rcases s.protection.sinceLatch with _ | e
  · simp
  · simp

theorem ocWouldTrip_iff (s : State) :
    s.ocWouldTrip = true
      ↔ s.protection.trip = none ∧ (¬∃ e, s.protection.sinceLatch = some e ∧ e < s.limits.blankUs)
        ∧ s.limits.ocFilter ≤ s.protection.filterCount + 1 := by
  rw [← ocBlanked_iff]
  simp [State.ocWouldTrip, and_assoc]

/-- Settles O37: a sample that does not trip counts its microsecond and moves the filter count. -/
theorem overcurrentFilterCounts : Obligations.OvercurrentFilterCounts := by
  intro s asserted hs blanked h
  have quiet : ¬(asserted && s.ocWouldTrip) = true := by
    rw [Bool.and_eq_true, ocWouldTrip_iff]
    rintro ⟨ha, ht, hb, hn⟩
    rcases h with h | h | h | h
    · rw [h] at ha
      cases ha
    · exact h ht
    · exact hb h
    · omega
  have sampled : exec (.overcurrentSample asserted) s
      = .next { s.tickUs with protection := { s.tickUs.protection with filterCount := s.filterNext asserted } } :=
    congrArg Host.Outcome.next ((whenLive_live hs _).trans (if_neg quiet))
  rw [tickUs_eq] at sampled
  refine ⟨_, sampled, rfl, fun ht => ?_, fun ht hb => ?_, fun ht hb => ?_, fun l => ?_, fun p hp => ?_⟩
  · exact if_pos (Option.isSome_iff_ne_none.2 ht)
  · show s.filterNext asserted = _
    unfold State.filterNext
    rw [ht, if_neg (by decide), if_pos ((ocBlanked_iff s).2 hb)]
  · show s.filterNext asserted = _
    unfold State.filterNext
    rw [ht, if_neg (by decide), if_neg fun e => hb ((ocBlanked_iff s).1 e)]
  · simp only [Fin.getElem_fin, Vector.getElem_map]
  · cases p <;> first | rfl | exact absurd (by decide) hp

/-- A trip (R142, R143): its mode is that of a full history, or the one in force. -/
theorem tripNow_spec (u : State) :
    let history := (u.protection.tripHistory ++ [u.ms]).drop (u.protection.tripHistory.length - 2)
    u.tripNow.protection
        = { u.protection with
            trip :=
              some
                { mode :=
                    if history.length = 3 ∧ (u.ms - history.headD 0).toNat ≤ 1000 then .manual else u.limits.ocMode
                  elapsed := 0 }
            tripHistory := history
            filterCount := 0 }
    ∧ u.tripNow.events = eventsAfter u.events u.ms .ocTrip .none history.length
    ∧ flagsAdded u u.tripNow (.ocTrip :: overrun u) := by
  have past : historyAdd 3 u.ms u.protection.tripHistory
      = (u.protection.tripHistory ++ [u.ms]).drop (u.protection.tripHistory.length - 2) := by
    unfold historyAdd
    simp
  dsimp only
  rw [← past]
  refine ⟨?_, rfl, fun f => ?_⟩
  · unfold State.tripNow
    dsimp only
    rw [addEvent_protection, historyFull_add 3 1000 u.ms _ (by decide)]
    simp only [decide_eq_true_eq]
    rfl
  · unfold State.tripNow
    dsimp only
    exact flagsAdded_trans (flagsAdded_congr_state (flagsAdded_setFlag .ocTrip _) rfl rfl) (flagsAdded_addEvent _ _ _ _) f

/-- Settles O38 (`tripNow_spec`, `tickUs_eq`). -/
theorem overcurrentTripsAndReleases : Obligations.OvercurrentTripsAndReleases := by
  refine ⟨fun s hs ht hb hn => ?_, fun s q hs hq => ⟨fun hm he => ?_, fun h => ?_⟩⟩
  · have trips : s.ocWouldTrip = true := (ocWouldTrip_iff s).2 ⟨ht, fun ⟨e, he, hl⟩ => absurd (hb e he) (by omega), hn⟩
    have sampled : s.ocSample true = s.tickUs.tripNow := if_pos (by rw [trips]; rfl)
    have trip : exec .ocTrip s = .next s.tickUs.tripNow :=
      congrArg Host.Outcome.next ((whenLive_live hs _).trans ((if_pos trips).trans sampled))
    have sample : exec (.overcurrentSample true) s = .next s.tickUs.tripNow :=
      congrArg Host.Outcome.next ((whenLive_live hs _).trans sampled)
    rw [trip, sample]
    obtain ⟨up, ul, uf⟩ : s.tickUs.protection
          = { s.protection with
              stepTimer := s.protection.stepTimer.tick
              trip := s.protection.trip.map fun q => { q with elapsed := q.elapsed + 1 }
              sinceLatch := s.protection.sinceLatch.map (· + 1) }
        ∧ s.tickUs.lines = s.lines.map lineAfterUs ∧ Outside [.protection, .lines] s s.tickUs := by
      refine ⟨?_, ?_, outside_tickUs s⟩ <;> rw [tickUs_eq]
    generalize s.tickUs = u at up ul uf ⊢
    obtain ⟨protection, events, flags⟩ := tripNow_spec u
    have frame := outside_tripNow u
    have tables : u.tables = s.tables := uf .tables (by decide)
    rw [limits_congr tables, up, show u.ms = s.ms from uf .ms (by decide)] at protection
    rw [up, show u.ms = s.ms from uf .ms (by decide), show u.events = s.events from uf .events (by decide)] at events
    generalize u.tripNow = t at protection events flags frame ⊢
    have limits : t.limits = s.limits := limits_congr ((frame .tables (by decide)).trans tables)
    refine ⟨t, rfl, rfl, protection, events, ?_, ?_, ?_, ?_, fun l => ?_, ?_⟩
    · have overrun : overrun u = overrun s := by
        unfold Safety.overrun
        rw [show u.events = s.events from uf .events (by decide)]
      rw [← overrun]
      exact flagsAdded_congr_state flags (uf .accrued (by decide)).symm rfl
    · rw [blanked_iff, protection]
      exact Or.inr (Or.inr (Or.inr (Or.inl nofun)))
    · unfold State.ceiling
      rw [limits, protection]
    · unfold State.budgetCap
      rw [limits, protection]
    · rw [show t.lines = u.lines from frame .lines (by decide), ul]
      simp only [Fin.getElem_fin, Vector.getElem_map]
    · exact outside_step frame (by decide) (outside_mono uf (by decide))
  · have release : exec .timedRelease s = .next s.releaseTrip := by
      refine congrArg Host.Outcome.next ((whenLive_live hs _).trans ?_)
      simp only [hq]
      exact if_pos ⟨hm, he⟩
    have released : s.releaseTrip
        = ({ s with protection := { s.protection with trip := none, filterCount := 0 } }).addEvent .ocReleased .none
            (releaseCode q.mode) := by
      unfold State.releaseTrip
      rw [hq]
    refine ⟨_, release, ?_, ?_, ?_, outside_releaseTrip s⟩ <;> rw [released]
    · exact addEvent_protection ..
    · rw [hm]
      rfl
    · exact flagsAdded_addEvent _ _ _ _
  · refine congrArg Host.Outcome.next ((whenLive_live hs _).trans ?_)
    simp only [hq]
    refine if_neg fun ⟨hm, he⟩ => ?_
    rcases h with h | h
    · exact h hm
    · omega

end Sys2Proof.Laws
end

section
/-! SUPPORT. Frames of the driver lines: their bytes, their building, the judgment of their returns and the timers of a line
(chapter 7). -/

namespace Sys2Proof.Laws

-- Each proof may wait for an earlier one; run one after another they need no thread each.
set_option Elab.async false

open Sys2Proof Sys2Proof.Machine Sys2Proof.Safety

/-! ### The bytes of a frame (section 10.8) -/

theorem frameBytes_length (kind : FrameKind) (first count : Nat) (payload : List Byte) :
    (frameBytes kind first count payload).length = 4 + payload.length := by
  unfold frameBytes
  simp
  omega

theorem frameBytes_header (kind : FrameKind) (first count : Nat) (payload : List Byte) :
    (frameBytes kind first count payload).take 3
      = [BitVec.ofNat 8 (frameCode kind), BitVec.ofNat 8 first, BitVec.ofNat 8 count] := rfl

theorem frameBytes_check (kind : FrameKind) (first count : Nat) (payload : List Byte) :
    (frameBytes kind first count payload).getLast?
      = some (crc8 (frameBytes kind first count payload).dropLast) := by
  unfold frameBytes
  dsimp only
  rw [List.getLast?_concat, List.dropLast_concat]

theorem frameBytes_payload (kind : FrameKind) (first count : Nat) (payload : List Byte) (i : Nat) (d : Byte)
    (h : i < payload.length) : (frameBytes kind first count payload).getD (3 + i) d = payload.getD i d := by
  unfold frameBytes
  dsimp only
  rw [List.getD_append _ _ _ _ (by simp; omega), List.getD_append_right _ _ _ _ (by simp)]
  simp

/-- Blocks of one length follow one another. -/
theorem flatMap_length {α : Type} {f : α → List Byte} {n : Nat} (hf : ∀ a, (f a).length = n) (as : List α) :
    (as.flatMap f).length = n * as.length := by
  induction as with
  | nil => rfl
  | cons a rest ih => rw [List.flatMap_cons, List.length_append, hf, ih, List.length_cons, Nat.mul_succ, Nat.add_comm]

theorem flatMap_getD {α : Type} {f : α → List Byte} {n : Nat} (hf : ∀ a, (f a).length = n) (as : List α) (j i : Nat) (a : α)
    (d : Byte) (ha : as[j]? = some a) (hi : i < n) : (as.flatMap f).getD (n * j + i) d = (f a).getD i d := by
  induction as generalizing j with
  | nil => cases ha
  | cons b rest ih =>
    rw [List.flatMap_cons]
    rcases j with _ | j
    · rw [Nat.mul_zero, Nat.zero_add, List.getD_append _ _ _ _ (by rw [hf]; exact hi)]
      cases ha
      rfl
    · rw [List.getD_append_right _ _ _ _ (by rw [hf, Nat.mul_succ]; omega), hf,
        show n * (j + 1) + i - n = n * j + i by rw [Nat.mul_succ]; omega]
      exact ih j ha

/-- The two bytes of a 16-bit field, joined again (R170). -/
theorem bigEndian16_join (v : BitVec 16) : v.extractLsb' 8 8 ++ v.extractLsb' 0 8 = v := by
  refine BitVec.eq_of_getLsbD_eq fun i hi => ?_
  rw [BitVec.getLsbD_append]
  by_cases h : i < 8
  · simp [h]
  · simp [h, show i - 8 < 8 by omega, show 8 + (i - 8) = i by omega]

/-! ### SETUP (R111) -/

/-- The payload block of a SETUP for one position. -/
def setupBlock (s : State) (l : LineNo) (p : Nat) : List Byte :=
  bigEndian16 (s.enableMask l p) ++ bigEndian16 (BitVec.ofNat 16 (s.phase l p)) ++ [BitVec.ofNat 8 (s.currentRange l)]

theorem setupBytes_eq (s : State) (l : LineNo) :
    s.setupBytes l = frameBytes .setup 0 (s.driverCount l) ((List.range (s.driverCount l)).flatMap (setupBlock s l)) := rfl

/-- A mask built bit by bit. -/
theorem foldl_bit (c : Nat → Bool) (ks : List Nat) (m : BitVec 16) (i : Nat) (hi : i < 16) :
    (ks.foldl (fun m k => if c k then m ||| BitVec.twoPow 16 k else m) m).getLsbD i
      = (m.getLsbD i || (decide (i ∈ ks) && c i)) := by
  induction ks generalizing m with
  | nil => simp
  | cons k rest ih =>
    rw [List.foldl_cons, ih]
    by_cases hk : i = k
    · subst hk
      by_cases hc : c i = true
      · simp [hc, hi]
      · simp [hc]
    · by_cases hc : c k = true
      · simp [hc, hk, Ne.symm hk]
      · simp [hc, hk]

theorem enableMask_bit (s : State) (l : LineNo) (p k : Nat) (hk : k < 16) :
    (s.enableMask l p).getLsbD k = s.channelEnabled l p k := by
  unfold State.enableMask
  rw [foldl_bit _ _ _ _ hk]
  simp [hk]

theorem currentRange_le (s : State) (l : LineNo) : s.currentRange l ≤ 3 := clampTo_le _ _ _ (by decide)

/-- The next frame of a STARTING line, or of one that owes a SETUP (R115). -/
theorem nextFrame_setup {s : State} {l : LineNo} (hf : s.lines[l].inFlight = none)
    (h : s.lines[l].state = .starting ∨ (s.lines[l].state = .running ∧ s.lines[l].setupOwed = true)) :
    s.nextFrame l = some .setup := by
  unfold State.nextFrame
  dsimp only
  rw [hf, if_neg (by decide)]
  rcases h with h | ⟨h, ho⟩
  · rw [h]
  · rw [h]
    exact if_pos ho

theorem nextFrame_level {s : State} {l : LineNo} (hf : s.lines[l].inFlight = none) (h : s.lines[l].state = .running)
    (ho : s.lines[l].setupOwed = false) (hd : s.dirtyPositions l ≠ []) : s.nextFrame l = some .level := by
  unfold State.nextFrame
  dsimp only
  rw [hf, if_neg (by decide), h, ho]
  exact if_pos hd

/-- Without a dirty channel the LATCH comes before the POLL (R115). -/
theorem nextFrame_clean {s : State} {l : LineNo} (hf : s.lines[l].inFlight = none) (h : s.lines[l].state = .running)
    (ho : s.lines[l].setupOwed = false) (hd : s.lines[l].dirty = 0) :
    s.nextFrame l = if s.lines[l].latchOwed = true then some .latch else if s.lines[l].pollDue = true then some .poll else none := by
  have clean : s.dirtyPositions l = [] := by
    unfold State.dirtyPositions
    rw [hd, List.filter_eq_nil_iff]
    intro p _
    simp [positionFlags]
  unfold State.nextFrame
  dsimp only
  rw [hf, if_neg (by decide), h, ho, clean, hd]
  simp

/-- Settles O26: the frame by `setupBytes_eq`, its bytes by the block of each position. -/
theorem setupIsBuilt : Obligations.SetupIsBuilt := by
  intro s l hs hf h
  have block (p : Nat) : (setupBlock s l p).length = 5 := rfl
  have count : ((List.range (s.driverCount l)).flatMap (setupBlock s l)).length = 5 * s.driverCount l := by
    rw [flatMap_length block, List.length_range]
  refine ⟨{ kind := .setup, bytes := s.setupBytes l, mask := 0, ended := false, afterCeiling := true },
    congrArg Host.Outcome.next ((whenLive_live hs _).trans (if_pos (nextFrame_setup hf h))), rfl, rfl, rfl, ?_, rfl,
    frameBytes_check _ _ _ _, fun p hp => ?_⟩
  · rw [setupBytes_eq, frameBytes_length, count]
  · have byte (i : Nat) (hi : i < 5) : (s.setupBytes l).getD (3 + (5 * p + i)) 0 = (setupBlock s l p).getD i 0 := by
      rw [setupBytes_eq, frameBytes_payload _ _ _ _ _ _ (by rw [count]; omega)]
      exact flatMap_getD block _ p i p 0 (List.getElem?_range hp) hi
    have at_ (j i : Nat) (hi : i < 5) (hj : j = 3 + (5 * p + i)) :
        (s.setupBytes l).getD j 0 = (setupBlock s l p).getD i 0 := hj ▸ byte i hi
    rw [at_ (3 + 5 * p) 0 (by decide) (by omega), at_ (4 + 5 * p) 1 (by decide) (by omega),
      at_ (5 + 5 * p) 2 (by decide) (by omega), at_ (6 + 5 * p) 3 (by decide) (by omega),
      at_ (7 + 5 * p) 4 (by decide) (by omega)]
    refine ⟨fun k hk => ?_, ?_, ?_⟩
    · refine (congrArg (BitVec.getLsbD · k) (bigEndian16_join (s.enableMask l p))).trans ?_
      exact enableMask_bit s l p k hk
    · refine (congrArg BitVec.toNat (bigEndian16_join (BitVec.ofNat 16 (s.phase l p)))).trans ?_
      rw [BitVec.toNat_ofNat, Nat.mod_eq_of_lt]
      · rfl
      · unfold State.phase
        omega
    · have := currentRange_le s l
      exact (BitVec.toNat_ofNat ..).trans (Nat.mod_eq_of_lt (by omega))

/-! ### LEVEL (R112) -/

/-- The last of the numbers below `n` that have a property. -/
theorem getLast?_filter_range {c : Nat → Bool} {n i : Nat} (hi : i < n) (hc : c i = true)
    (hl : ∀ j, j < n → c j = true → j ≤ i) : ((List.range n).filter c).getLast? = some i := by
  induction n with
  | zero => omega
  | succ n ih =>
    rw [List.range_succ, List.filter_append]
    by_cases hn : i = n
    · subst hn
      rw [List.filter_cons_of_pos hc, List.filter_nil, List.getLast?_concat]
    · have none : ¬c n = true := fun h => by
        have := hl n (by omega) h
        omega
      rw [List.filter_cons_of_neg none, List.filter_nil, List.append_nil]
      exact ih (by omega) fun j hj => hl j (by omega)

/-- The first of the numbers below `n` that have a property. -/
theorem head?_filter_range {c : Nat → Bool} {n i : Nat} (hi : i < n) (hc : c i = true)
    (hl : ∀ j, j < n → c j = true → i ≤ j) : ((List.range n).filter c).head? = some i := by
  rw [List.head?_filter, List.find?_range_eq_some]
  refine ⟨hc, List.mem_range.2 hi, fun j hj => ?_⟩
  by_cases h : c j = true
  · have := hl j (by omega) h
    omega
  · simpa using h

theorem levelBlock_length (s : State) (l : LineNo) (p : Nat) : (s.levelBlock l p).length = 34 := by
  unfold State.levelBlock
  rw [List.length_append, flatMap_length (n := 2) fun k => rfl]
  rfl

/-- The write mask of a covered position stands first in its block. -/
theorem levelBlock_mask (s : State) (l : LineNo) (p : Nat) :
    (s.levelBlock l p).getD 0 0 ++ (s.levelBlock l p).getD 1 0 = positionFlags s.lines[l].dirty p :=
  bigEndian16_join _

/-- The duty codes of a covered position follow, two bytes each. -/
theorem levelBlock_code (s : State) (l : LineNo) (p k : Nat) (hk : k < 16) :
    (s.levelBlock l p).getD (2 + 2 * k) 0 ++ (s.levelBlock l p).getD (3 + 2 * k) 0 = BitVec.ofNat 16 (s.dutyCode l p k) := by
  have byte (i : Nat) (hi : i < 2) :
      (s.levelBlock l p).getD (2 + (2 * k + i)) 0 = (bigEndian16 (BitVec.ofNat 16 (s.dutyCode l p k))).getD i 0 := by
    unfold State.levelBlock
    rw [List.getD_append_right _ _ _ _ (by show 2 ≤ _; omega)]
    show List.getD _ (2 + (2 * k + i) - 2) 0 = _
    rw [Nat.add_sub_cancel_left]
    exact flatMap_getD (f := fun k => bigEndian16 (BitVec.ofNat 16 (s.dutyCode l p k))) (fun _ => rfl) _ k i k 0
      (List.getElem?_range hk) hi
  rw [show 2 + 2 * k = 2 + (2 * k + 0) by omega, show 3 + 2 * k = 2 + (2 * k + 1) by omega, byte 0 (by decide),
    byte 1 (by decide)]
  exact bigEndian16_join _

theorem capturedDuty_le (s : State) (l : LineNo) (p k : Nat) : s.capturedDuty l p k ≤ s.ceiling := by
  unfold State.capturedDuty
  dsimp only
  split
  · exact (Nat.div_le_self _ _).trans (Nat.min_le_right _ _)
  · exact Nat.min_le_right _ _

theorem dutyCode_le (s : State) (l : LineNo) (p k : Nat) : s.dutyCode l p k ≤ s.ceiling := by
  unfold State.dutyCode
  split
  · exact capturedDuty_le s l p k
  · exact Nat.zero_le _

/-- Settles O27: the covered positions by `head?_filter_range` and `getLast?_filter_range`, the bytes by `levelBlock_mask` and
`levelBlock_code`. -/
theorem levelCarriesTheDuties : Obligations.LevelCarriesTheDuties := by
  intro s l lo hi hs _ hf hr ho hlh hn hdl hdh hd
  have first : (s.dirtyPositions l).head? = some lo :=
    head?_filter_range (by omega) (decide_eq_true hdl) fun p hp hc => (hd p hp (of_decide_eq_true hc)).1
  have last : (s.dirtyPositions l).getLast? = some hi :=
    getLast?_filter_range hn (decide_eq_true hdh) fun p hp hc => (hd p hp (of_decide_eq_true hc)).2
  have next : s.nextFrame l = some .level := nextFrame_level hf hr ho fun e => by
    rw [e] at first
    cases first
  have built : exec (.levelBuild l) s
      = .next { s with
                lines := s.lines.set l
                  { s.lines[l] with
                    dirty := 0
                    inFlight :=
                      some
                        { kind := .level, bytes := s.levelBytes l lo hi
                          mask := s.lines[l].dirty &&& channelsBelow (s.driverCount l), ended := false
                          afterCeiling := true } } } := by
    refine congrArg Host.Outcome.next ((whenLive_live hs _).trans ((if_pos next).trans ?_))
    unfold State.buildLevel
    rw [first, last]
    rfl
  have count : ((List.range' lo (hi + 1 - lo)).flatMap (s.levelBlock l)).length = 34 * (hi + 1 - lo) := by
    rw [flatMap_length (levelBlock_length s l), List.length_range']
  refine ⟨_, built, rfl, rfl, ?_, rfl, frameBytes_check _ _ _ _, fun p hlp hph => ?_⟩
  · exact (frameBytes_length _ _ _ _).trans (by rw [count])
  · have byte (j i : Nat) (hi' : i < 34) (hj : j = 3 + (34 * (p - lo) + i)) :
        (s.levelBytes l lo hi).getD j 0 = (s.levelBlock l p).getD i 0 := by
      subst hj
      refine (frameBytes_payload _ _ _ _ _ _ (by rw [count]; omega)).trans ?_
      refine flatMap_getD (levelBlock_length s l) _ (p - lo) i p 0 ?_ hi'
      rw [List.getElem?_range' (by omega)]
      congr 1
      omega
    dsimp only
    refine ⟨?_, fun k hk => ?_⟩
    · rw [byte _ 0 (by decide) (by omega), byte _ 1 (by decide) (by omega)]
      exact levelBlock_mask s l p
    · have bound := dutyCode_le s l p k
      have most := ceiling_le s
      rw [byte _ (2 + 2 * k) (by omega) (by omega), byte _ (3 + 2 * k) (by omega) (by omega), levelBlock_code s l p k hk,
        BitVec.toNat_ofNat, Nat.mod_eq_of_lt (by omega)]
      exact ⟨by omega, bound, fun h => if_neg (by rw [channelBit, h]; decide), fun h => if_pos h⟩

/-! ### LATCH and POLL (R113) -/

/-- Settles O28 (`nextFrame_clean`). -/
theorem latchAndPollAreBuilt : Obligations.LatchAndPollAreBuilt := by
  intro s l hs hf hr ho hd
  have next := nextFrame_clean hf hr ho hd
  refine ⟨fun hl => ?_, fun hl hp => ⟨{ kind := .poll, bytes := s.pollBytes l, mask := 0, ended := false, afterCeiling := true },
    ?_, rfl, ?_, rfl, fun i hi => ?_, frameBytes_check _ _ _ _⟩⟩
  · rw [if_pos hl] at next
    exact congrArg Host.Outcome.next ((whenLive_live hs _).trans (if_pos next))
  · rw [hl, if_neg Bool.false_ne_true, if_pos hp] at next
    exact congrArg Host.Outcome.next ((whenLive_live hs _).trans (if_pos next))
  · exact (frameBytes_length _ _ _ _).trans (by rw [List.length_replicate])
  · refine (frameBytes_payload _ _ _ _ _ _ (by rw [List.length_replicate]; exact hi)).trans ?_
    rw [List.getD_replicate _ hi]

/-! ### The judgment of a return (R114, R118) -/

/-- RETURN_CHECK of a whole return. -/
theorem exec_returnCheck {s : State} (hs : live s) {l : LineNo} {f : Frame} (hf : s.lines[l].inFlight = some f)
    {bytes : List Byte} (hb : bytes.length = f.bytes.length) :
    exec (.returnCheck l bytes) s
      = .next (if returnGood f bytes = true then s.frameSucceeds l f bytes else s.frameFails l f) := by
  refine congrArg Host.Outcome.next ((whenLive_live hs _).trans ?_)
  simp only [hf]
  exact if_pos hb

theorem exec_returnCheck_short {s : State} (hs : live s) {l : LineNo} {f : Frame} (hf : s.lines[l].inFlight = some f)
    {bytes : List Byte} (hb : bytes.length ≠ f.bytes.length) : exec (.returnCheck l bytes) s = .next s := by
  refine congrArg Host.Outcome.next ((whenLive_live hs _).trans ?_)
  simp only [hf]
  exact if_neg hb

theorem exec_timeout {s : State} (hs : live s) {l : LineNo} {f : Frame} (hf : s.lines[l].inFlight = some f) :
    exec (.timeout l) s = .next (s.frameFails l f) := by
  refine congrArg Host.Outcome.next ((whenLive_live hs _).trans ?_)
  simp only [hf]

/-- A SETUP, LEVEL or LATCH that comes back as it was sent is a success. -/
theorem exec_returnCheck_same {s : State} (hs : live s) {l : LineNo} {f : Frame} (hf : s.lines[l].inFlight = some f)
    (hk : f.kind ≠ .poll) : exec (.returnCheck l f.bytes) s = .next (s.frameSucceeds l f f.bytes) := by
  rw [exec_returnCheck hs hf rfl, if_pos]
  unfold returnGood
  split
  · exact beq_self_eq_true _
  · exact beq_self_eq_true _
  · exact beq_self_eq_true _
  · next h => exact absurd h hk

theorem returnGood_bad {f : Frame} {bytes : List Byte} (h : badReturn f bytes) : returnGood f bytes = false := by
  obtain ⟨-, h⟩ := h
  unfold returnGood
  rcases hk : f.kind with _ | _ | _ | _
  case poll =>
    rw [hk, if_pos rfl] at h
    rcases h with h | h
    · simp [h]
    · simp [h]
  all_goals
    rw [hk, if_neg nofun] at h
    exact beq_eq_false_iff_ne.2 h

/-- A bad return fails its frame as a timeout does. -/
theorem exec_returnCheck_bad {s : State} (hs : live s) {l : LineNo} {f : Frame} (hf : s.lines[l].inFlight = some f)
    {bytes : List Byte} (h : badReturn f bytes) : exec (.returnCheck l bytes) s = .next (s.frameFails l f) := by
  rw [exec_returnCheck hs hf h.1, returnGood_bad h]
  rfl

/-- The line is free with no failures. -/
abbrev freedLine (x : Line) : Line := { x with inFlight := none, failures := 0 }

theorem frameSucceeds_latch {l : LineNo} {f : Frame} (bytes : List Byte) (s : State) (hk : f.kind = .latch) :
    s.frameSucceeds l f bytes
      = State.powerDownTest
          { s with
            lines := s.lines.set l
              { freedLine s.lines[l] with ceilingLatched := s.lines[l].ceilingLatched || f.afterCeiling } } := by
  unfold State.frameSucceeds
  dsimp only
  rw [hk]
  dsimp only
  congr 1
  unfold State.modifyLine
  dsimp only
  rw [Vector.set_set]
  simp

/-- A state in which no power-down is under way is not tested (R135). -/
theorem powerDownTest_idle {s : State} (h1 : s.protection.sequencer ≠ .draining) (h2 : s.protection.sequencer ≠ .dropping) :
    s.powerDownTest = s := by
  unfold State.powerDownTest
  split
  · next h => exact absurd h h1
  · next h => exact absurd h h2
  · rfl
  · rfl

/-- Settles O29 (`exec_returnCheck_same`, `powerDownTest_spec`). -/
theorem goodReturnFreesTheLine : Obligations.GoodReturnFreesTheLine := by
  refine ⟨fun s l f hs hf hk he => ?_, fun s l f hs hf => ⟨fun bytes hb => exec_returnCheck_short hs hf hb, fun h => ?_,
    fun hk h1 h2 => ?_, fun hk hb hq => ?_, fun hk hst => ?_⟩⟩
  · refine congrArg Host.Outcome.next ((whenLive_live hs _).trans ?_)
    simp only [hf]
    exact if_pos ⟨hk, he⟩
  · rcases h with hk | ⟨hk, hst⟩
    · rw [exec_returnCheck_same hs hf (by rw [hk]; decide)]
      unfold State.frameSucceeds
      rw [hk]
      rfl
    · rw [exec_returnCheck_same hs hf (by rw [hk]; decide)]
      unfold State.frameSucceeds
      rw [hk]
      refine congrArg Host.Outcome.next (if_neg ?_)
      rw [modifyLine_get, if_pos rfl]
      exact hst
  · rw [exec_returnCheck_same hs hf (by rw [hk]; decide), frameSucceeds_latch _ s hk]
    exact congrArg Host.Outcome.next (powerDownTest_idle h1 h2)
  · rw [exec_returnCheck_same hs hf (by rw [hk]; decide), frameSucceeds_latch _ s hk]
    refine ⟨_, rfl, powerDownTest_spec _ (by show s.protection.backlight ≠ .off; rw [hb]; decide) hq, ?_⟩
    exact outside_step (outside_powerDownTest _) (by decide) (outside_mono (outside_lines s _) (by decide))
  · rw [exec_returnCheck_same hs hf (by rw [hk]; decide)]
    have runs : s.frameSucceeds l f f.bytes = State.lineRuns l (s.modifyLine l freedLine) := by
      unfold State.frameSucceeds
      rw [hk]
      refine if_pos ?_
      rw [modifyLine_get, if_pos rfl]
      exact hst
    rw [runs]
    refine ⟨_, rfl, ?_, rfl,
      flagsAdded_addEvent _ _ _ (State.modifyLine l _ (s.modifyLine l freedLine)), ?_⟩
    · unfold State.lineRuns
      rw [addEvent_lines]
      unfold State.modifyLine
      dsimp only
      rw [Vector.set_set]
      simp
      rfl
    · exact outside_step (outside_lineRuns l _) (by decide) (outside_mono (outside_modifyLine l freedLine s) (by decide))

/-! ### The failure of a frame (R118, R122) -/

/-- What a first or second failure in a row owes again. -/
theorem frameFails_again {s : State} {l : LineNo} (f : Frame) (h : s.lines[l].failures < 2) :
    s.frameFails l f
      = { s with
          accrued := s.accrued ||| BitVec.twoPow 15 11
          lines := s.lines.set l
            (match f.kind with
              | .setup =>
                { s.lines[l] with
                  inFlight := none, failures := s.lines[l].failures + 1
                  setupOwed := s.lines[l].setupOwed || decide (s.lines[l].state = .running) }
              | .level =>
                { s.lines[l] with
                  inFlight := none, failures := s.lines[l].failures + 1
                  dirty := s.lines[l].dirty ||| f.mask, latchOwed := true }
              | .latch =>
                { s.lines[l] with inFlight := none, failures := s.lines[l].failures + 1, latchOwed := true }
              | .poll =>
                { s.lines[l] with inFlight := none, failures := s.lines[l].failures + 1, pollDue := true }) } := by
  have few : ¬2 ≤ (s.setFlag .lineError).lines[l].failures := by
    show ¬2 ≤ s.lines[l].failures
    omega
  unfold State.frameFails
  dsimp only
  rw [if_neg few]
  unfold State.modifyLine failedFrame
  rcases hk : f.kind with _ | _ | _ | _
  · have owed : (s.lines[l].setupOwed || decide (s.lines[l].state = .running))
        = if s.lines[l].state = .running then true else s.lines[l].setupOwed := by
      split
      · next hr => rw [decide_eq_true hr, Bool.or_true]
      · next hr => rw [decide_eq_false hr, Bool.or_false]
    rw [owed]
    rfl
  all_goals rfl

theorem faultHistory_eq (x : Line) (now : Word) : historyAdd 7 now x.history = faultHistory x now := by
  unfold historyAdd faultHistory
  simp

/-- The line that a third failure leaves, in terms of the frame that failed (R122). -/
theorem failedLine_eq {x : Line} {f : Frame} (hf : x.inFlight = some f) (history : List Word) (locks : Prop) [Decidable locks] :
    { abandonFrame x with
      state := if locks then .locked else .faulted
      failures := 0
      history := history
      pollTimer := .stopped
      stateTimer := if locks then .stopped else .running 0 }
      = failedLine x f history (if locks then .locked else .faulted) := by
  unfold abandonFrame failedLine
  rw [hf]
  by_cases hl : locks <;> rcases hk : f.kind with _ | _ | _ | _ <;> simp [hl, hk]

/-- A third failure faults or locks the line and tells it; what follows is the business of a power-down (R122, R134, R135). -/
theorem frameFails_third {s : State} {l : LineNo} {f : Frame} (hf : s.lines[l].inFlight = some f) (h : 2 ≤ s.lines[l].failures) :
    let history := faultHistory s.lines[l] s.ms
    let locks := faultLocks history s.ms
    ∃ u : State,
      s.frameFails l f = State.powerDownTest (if u.protection.backlight = .poweringDown then u.stopOrder l else u)
      ∧ u.lines = s.lines.set l (failedLine s.lines[l] f history (if locks then .locked else .faulted))
      ∧ u.events
          = (if locks then eventsAfter s.events s.ms .lineLocked (.line l) 7
            else eventsAfter s.events s.ms .lineFaulted (.line l) history.length)
      ∧ flagsAdded s u (.lineError :: overrun s) ∧ Outside [.lines, .events, .accrued] s u := by
  intro history locks
  have third : s.frameFails l f = (s.setFlag .lineError).faultLine l := if_pos h
  have full : (historyFull 7 60000 (historyAdd 7 s.ms s.lines[l].history) = true) = locks := by
    rw [historyFull_add 7 60000 s.ms _ (by decide), decide_eq_true_eq, faultHistory_eq]
  have flagged : flagsAdded s (s.setFlag .lineError) [.lineError] := flagsAdded_setFlag _ s
  have told (k : EventKind) (d : Nat) (t : State) (ha : t.accrued = (s.setFlag .lineError).accrued) (he : t.events = s.events) :
      flagsAdded s (t.addEvent k (.line l) d) (.lineError :: overrun s) := by
    have same : overrun t = overrun s := by
      unfold overrun
      rw [he]
    have := flagsAdded_trans (flagsAdded_congr_state flagged rfl ha) (flagsAdded_addEvent k (.line l) d t)
    rw [same] at this
    exact this
  have frame (k : EventKind) (d : Nat) (g : Line → Line) :
      Outside [.lines, .events, .accrued] s (((s.setFlag .lineError).modifyLine l g).addEvent k (.line l) d) :=
    outside_step (outside_addEvent _ _ _ _) (by decide)
      (outside_step (outside_modifyLine l g _) (by decide) (outside_mono (outside_setFlag _ s) (by decide)))
  have lines (g : Line → Line) : ((s.setFlag .lineError).modifyLine l g).lines = s.lines.set l (g s.lines[l]) := rfl
  rw [third]
  unfold State.faultLine
  dsimp only
  rw [show (s.setFlag .lineError).lines[l].history = s.lines[l].history from rfl,
    show (s.setFlag .lineError).ms = s.ms from rfl]
  simp only [full]
  simp only [faultHistory_eq]
  by_cases hl : locks
  · simp only [if_pos hl]
    refine ⟨_, rfl, ?_, rfl, told _ _ _ rfl rfl, frame _ _ _⟩
    rw [addEvent_lines, lines]
    have := failedLine_eq hf history locks
    simp only [if_pos hl] at this
    rw [← this]
  · simp only [if_neg hl]
    refine ⟨_, rfl, ?_, rfl, told _ _ _ rfl rfl, frame _ _ _⟩
    rw [addEvent_lines, lines]
    have := failedLine_eq hf history locks
    simp only [if_neg hl] at this
    rw [← this]

/-- A line that faults in a power-down is stopped at once (R134). -/
theorem stoppedLine_failed {x : Line} {f : Frame} (history : List Word) :
    stoppedLine (failedLine x f history .faulted) = failedLine x f history .off := rfl

/-- Settles O31 (`frameFails_again`, `frameFails_third`, `powerDownTest_spec`). -/
theorem failedFrameIsOwedAgain : Obligations.FailedFrameIsOwedAgain := by
  refine ⟨fun s l f bytes hs hf h => ?_, fun s l f bytes hs hf h => ?_⟩
  · have again := frameFails_again f h
    exact ⟨(exec_timeout hs hf).trans (congrArg Host.Outcome.next again),
      fun hb => (exec_returnCheck_bad hs hf hb).trans (congrArg Host.Outcome.next again)⟩
  · obtain ⟨u, e, lines, events, flags, frame⟩ := frameFails_third hf h
    have protection : u.protection = s.protection := frame .protection (by decide)
    have line : u.lines[l]
        = failedLine s.lines[l] f (faultHistory s.lines[l] s.ms)
            (if faultLocks (faultHistory s.lines[l] s.ms) s.ms then .locked else .faulted) := by
      rw [lines]
      simp
    dsimp only
    generalize faultHistory s.lines[l] s.ms = history at *
    refine ⟨fun hb h1 h2 => ?_, fun hb hq => ?_⟩
    · have calm : s.frameFails l f = u := by
        rw [e, protection, if_neg hb, powerDownTest_idle (by rw [protection]; exact h1) (by rw [protection]; exact h2)]
      refine ⟨u, by rw [exec_timeout hs hf, calm], fun hb => by rw [exec_returnCheck_bad hs hf hb, calm], lines, ⟨events, flags⟩,
        ?_, frame⟩
      unfold State.len
      rw [line]
      split
      · rfl
      · rfl
    · have test : s.frameFails l f = State.powerDownTest (u.stopOrder l) := by
        rw [e, protection, if_pos hb]
      have stop : (u.stopOrder l).lines
          = s.lines.set l (failedLine s.lines[l] f history (if faultLocks history s.ms then .locked else .off)) := by
        unfold State.stopOrder
        by_cases hl : faultLocks history s.ms
        · rw [if_pos hl] at lines line ⊢
          rw [if_pos (by rw [line]; exact Or.inr rfl)]
          exact lines
        · rw [if_neg hl] at lines line ⊢
          rw [if_neg (by rw [line]; exact fun h => h.elim nofun nofun)]
          unfold State.modifyLine
          dsimp only
          rw [stoppedLine_eq, line, lines, Vector.set_set]
          rfl
      have so := outside_stopOrder l u
      have frame' : Outside [.lines, .events, .accrued] s (u.stopOrder l) := outside_step so (by decide) frame
      have protection' : (u.stopOrder l).protection = s.protection := frame' .protection (by decide)
      refine ⟨u.stopOrder l, _, by rw [exec_timeout hs hf, test], fun hb => by rw [exec_returnCheck_bad hs hf hb, test], stop,
        ⟨(so .events (by decide)).trans events, flagsAdded_congr_state flags rfl (so .accrued (by decide))⟩, frame',
        powerDownTest_spec _ (by rw [protection', hb]; decide) (by rw [protection']; exact hq),
        outside_mono (outside_powerDownTest _) (by decide)⟩

/-! ### The timers of a line (R117, R119, R123) -/

/-- A line that enters STARTING ends the power-up if it got the last start order (R119, R133). -/
theorem lineStarts_eq (l : LineNo) (s : State) :
    s.lineStarts l
      = let t : State := { s with lines := s.lines.set l { s.lines[l] with state := .starting, stateTimer := .stopped } }
        if s.protection.sequencer = .up [] l then (t.setSequencer .idle .stopped).setBacklight .on else t := by
  unfold State.lineStarts
  dsimp only
  rw [show (s.modifyLine l fun x => { x with state := .starting, stateTimer := .stopped }).protection = s.protection from rfl]
  rcases hq : s.protection.sequencer with _ | ⟨_ | ⟨m, rest⟩, last⟩ | _ | _
  case up.nil =>
    by_cases h : last = l
    · subst h
      rw [if_pos rfl]
      exact if_pos rfl
    · rw [if_neg fun e => h (by cases e; rfl)]
      exact if_neg h
  all_goals exact (if_neg nofun).symm

/-- Settles O32, timer by timer. -/
theorem lineTimersExpire : Obligations.LineTimersExpire := by
  refine ⟨fun s l e hs => ⟨fun hr ht => ?_, fun hr ht he => ?_, fun hr ht he => ⟨fun hb => ?_, fun h1 h2 => ?_⟩⟩,
    fun s l e hs hw ht => ⟨fun he => ?_, fun he hq => ?_, fun he hq hb => ?_⟩⟩
  · refine congrArg Host.Outcome.next ((whenLive_live hs _).trans ?_)
    rw [ht, running_reached]
    by_cases he : s.pollInterval l ≤ e
    · rw [if_pos ⟨hr, decide_eq_true he⟩, if_pos he]
      rfl
    · rw [if_neg fun h => he (of_decide_eq_true h.2), if_neg he]
  · refine congrArg Host.Outcome.next ((whenLive_live hs _).trans (if_neg ?_))
    rw [ht, running_reached, decide_eq_true_eq]
    omega
  · refine congrArg Host.Outcome.next ((whenLive_live hs _).trans ((if_pos ?_).trans ((if_pos hb).trans ?_)))
    · rw [ht, running_reached]
      exact ⟨hr, decide_eq_true he⟩
    · rw [startOrder_eq, if_pos (Or.inr hr)]
  · refine congrArg Host.Outcome.next ((whenLive_live hs _).trans ((if_pos ?_).trans (if_neg ?_)))
    · rw [ht, running_reached]
      exact ⟨hr, decide_eq_true he⟩
    · exact fun h => h.elim h1 h2
  · refine congrArg Host.Outcome.next ((whenLive_live hs _).trans (if_neg ?_))
    rw [ht, running_reached, decide_eq_true_eq]
    omega
  · refine congrArg Host.Outcome.next ((whenLive_live hs _).trans ((if_pos ?_).trans ?_))
    · rw [ht, running_reached]
      exact ⟨hw, decide_eq_true he⟩
    · rw [lineStarts_eq]
      exact if_neg hq
  · have starts : exec (.waitSlotElapsed l) s
        = .next (State.setBacklight .on (State.setSequencer .idle .stopped
            { s with lines := s.lines.set l { s.lines[l] with state := .starting, stateTimer := .stopped } })) := by
      refine congrArg Host.Outcome.next ((whenLive_live hs _).trans ((if_pos ?_).trans ?_))
      · rw [ht, running_reached]
        exact ⟨hw, decide_eq_true he⟩
      · rw [lineStarts_eq]
        exact if_pos hq
    have frame := outside_lineStarts l s
    rw [lineStarts_eq, if_pos hq] at frame
    obtain ⟨protection, events, flags⟩ := setBacklight_spec .on (State.setSequencer .idle .stopped
      { s with lines := s.lines.set l { s.lines[l] with state := .starting, stateTimer := .stopped } })
    have dark : ¬Backlight.on = s.protection.backlight := by rw [hb]; decide
    refine ⟨_, starts, outside_setBacklight .on (State.setSequencer .idle .stopped _) .lines (by decide), protection,
      events.trans (if_neg dark), ?_, frame⟩
    exact flagsAdded_congr_state (flagsAdded_congr flags fun f => iff_of_eq (congrArg (f ∈ ·) (if_neg dark))) rfl rfl

end Sys2Proof.Laws
end

section
/-! SUPPORT. Little-endian fields laid into an image (R170, R171), the status word and the header check of a command (R153,
R154), READ_STATUS and READ_EVENTS (R166, R168). -/

namespace Sys2Proof.Laws

-- Each proof may wait for an earlier one; run one after another they need no thread each.
set_option Elab.async false

open Sys2Proof Sys2Proof.Machine Sys2Proof.Safety

/-! ### Fields laid into an image -/

/-- Byte `j` of an image that holds the field `(offset, size, value)` alone. -/
def fieldByte (f : Nat × Nat × Nat) (j : Nat) : Byte :=
  if f.1 ≤ j ∧ j < f.1 + f.2.1 then BitVec.ofNat 8 (f.2.2 / 256 ^ (j - f.1)) else 0#8

theorem fieldByte_outside {f : Nat × Nat × Nat} {j : Nat} (h : j < f.1 ∨ f.1 + f.2.1 ≤ j) : fieldByte f j = 0#8 :=
  if_neg fun ⟨h1, h2⟩ => by omega

theorem fieldByte_inside {f : Nat × Nat × Nat} {i : Nat} (h : i < f.2.1) :
    fieldByte f (f.1 + i) = BitVec.ofNat 8 (f.2.2 / 256 ^ i) := by
  unfold fieldByte
  rw [if_pos ⟨by omega, by omega⟩, Nat.add_sub_cancel_left]

theorem fieldByte_zero {f : Nat × Nat × Nat} (h : f.2.2 = 0) (j : Nat) : fieldByte f j = 0#8 := by
  unfold fieldByte
  rw [h, Nat.zero_div]
  split <;> rfl

theorem laid_byte {n : Nat} (f : Nat × Nat × Nat) {j : Nat} (hj : 8 * j + 8 ≤ n) :
    (BitVec.ofNat n (f.2.2 % 2 ^ (8 * f.2.1)) <<< (8 * f.1)).extractLsb' (8 * j) 8 = fieldByte f j := by
  refine BitVec.eq_of_getLsbD_eq fun i hi => ?_
  rw [BitVec.getLsbD_extractLsb', BitVec.getLsbD_shiftLeft, BitVec.getLsbD_ofNat, Nat.testBit_mod_two_pow]
  unfold fieldByte
  by_cases h : f.1 ≤ j ∧ j < f.1 + f.2.1
  · rw [if_pos h, BitVec.getLsbD_ofNat, show 256 = 2 ^ 8 from rfl, ← pow_mul, Nat.testBit_div_two_pow]
    have shift : 8 * (j - f.1) + i = 8 * j + i - 8 * f.1 := by omega
    simp only [hi, decide_true, Bool.true_and, show 8 * j + i < n by omega, show ¬8 * j + i < 8 * f.1 by omega,
      decide_false, Bool.not_false, show 8 * j + i - 8 * f.1 < n by omega,
      show 8 * j + i - 8 * f.1 < 8 * f.2.1 by omega]
    rw [← shift, Nat.add_comm]
  · rw [if_neg h, BitVec.getLsbD_zero]
    by_cases hlo : 8 * j + i < 8 * f.1
    · simp [hlo]
    · simp [show ¬8 * j + i - 8 * f.1 < 8 * f.2.1 by omega]

theorem extract_or {n : Nat} (x y : BitVec n) (a b : Nat) :
    (x ||| y).extractLsb' a b = x.extractLsb' a b ||| y.extractLsb' a b := by
  refine BitVec.eq_of_getLsbD_eq fun i hi => ?_
  simp [hi]

/-- A byte of an image is the union of what its fields put there. -/
theorem packFields_byte {n : Nat} (fields : List (Nat × Nat × Nat)) {j : Nat} (hj : 8 * j + 8 ≤ n) :
    (packFields n fields).extractLsb' (8 * j) 8 = fields.foldl (fun b f => b ||| fieldByte f j) 0#8 := by
  have key : ∀ (acc : BitVec n),
      (fields.foldl (fun acc f => acc ||| (BitVec.ofNat n (f.2.2 % 2 ^ (8 * f.2.1)) <<< (8 * f.1))) acc).extractLsb' (8 * j) 8
        = fields.foldl (fun b f => b ||| fieldByte f j) (acc.extractLsb' (8 * j) 8) := by
    induction fields with
    | nil => exact fun _ => rfl
    | cons f rest ih =>
      intro acc
      rw [List.foldl_cons, List.foldl_cons, ih, extract_or, laid_byte f hj]
  have zero : (BitVec.ofNat n 0).extractLsb' (8 * j) 8 = 0#8 := by
    refine BitVec.eq_of_getLsbD_eq fun i hi => ?_
    simp
  rw [packFields, key, zero]

/-- One field's byte stands alone where every other field puts nothing. -/
theorem foldl_fieldByte {fields : List (Nat × Nat × Nat)} {x : Byte} {j : Nat} (h : ∀ f ∈ fields, fieldByte f j = x ∨ fieldByte f j = 0#8)
    (hx : x = 0#8 ∨ ∃ f ∈ fields, fieldByte f j = x) : fields.foldl (fun b f => b ||| fieldByte f j) 0#8 = x := by
  have key : ∀ (fs : List (Nat × Nat × Nat)), (∀ f ∈ fs, fieldByte f j = x ∨ fieldByte f j = 0#8) → ∀ acc : Byte,
      fs.foldl (fun b f => b ||| fieldByte f j) acc = if ∃ f ∈ fs, fieldByte f j = x then acc ||| x else acc := by
    intro fs
    induction fs with
    | nil => exact fun _ acc => (if_neg (by simp)).symm
    | cons f rest ih =>
      intro hf acc
      obtain ⟨hf, hr⟩ := List.forall_mem_cons.1 hf
      rw [List.foldl_cons, ih hr]
      simp only [List.exists_mem_cons_iff]
      rcases hf with hf | hf
      · rw [if_pos (Or.inl hf), hf]
        split
        · rw [BitVec.or_assoc, BitVec.or_self]
        · rfl
      · rw [hf, BitVec.or_zero]
        by_cases hz : 0#8 = x
        · simp [← hz]
        · simp only [hz, false_or]
  rw [key fields h 0#8, BitVec.zero_or]
  rcases hx with hx | hx
  · rw [hx]
    exact ite_self _
  · exact if_pos hx

/-- Two fields share no byte. -/
def FieldsApart (f g : Nat × Nat) : Prop := f.1 + f.2 ≤ g.1 ∨ g.1 + g.2 ≤ f.1

/-- The place of a field. -/
def fieldPlace (f : Nat × Nat × Nat) : Nat × Nat := (f.1, f.2.1)

theorem fieldsApart_symm : Std.Symm fun f g : Nat × Nat × Nat => FieldsApart (fieldPlace f) (fieldPlace g) :=
  ⟨fun _ _ h => h.symm⟩

/-- Byte `i` of a field of an image whose fields lie apart. -/
theorem packFields_field {n : Nat} {fields : List (Nat × Nat × Nat)} (hp : (fields.map fieldPlace).Pairwise FieldsApart)
    {f : Nat × Nat × Nat} (hf : f ∈ fields) {i : Nat} (hi : i < f.2.1) (hn : 8 * (f.1 + i) + 8 ≤ n) :
    (packFields n fields).extractLsb' (8 * (f.1 + i)) 8 = BitVec.ofNat 8 (f.2.2 / 256 ^ i) := by
  rw [packFields_byte fields hn]
  refine foldl_fieldByte (fun g hg => ?_) (Or.inr ⟨f, hf, fieldByte_inside hi⟩)
  by_cases e : g = f
  · rw [e]
    exact Or.inl (fieldByte_inside hi)
  · rw [List.pairwise_map] at hp
    have symm := fieldsApart_symm
    have apart := hp.forall hg hf e
    exact Or.inr (fieldByte_outside (by rcases apart with h | h <;> simp only [fieldPlace] at h <;> omega))

/-- A byte that no field covers is 0. -/
theorem packFields_gap {n : Nat} {fields : List (Nat × Nat × Nat)} {j : Nat} (hn : 8 * j + 8 ≤ n)
    (h : ∀ f ∈ fields, j < f.1 ∨ f.1 + f.2.1 ≤ j) : (packFields n fields).extractLsb' (8 * j) 8 = 0#8 := by
  rw [packFields_byte fields hn]
  exact foldl_fieldByte (fun f hf => Or.inr (fieldByte_outside (h f hf))) (Or.inl rfl)

/-! ### The header check and the status word (R153, R154) -/

/-- A parameter length outside its bounds (R153). -/
theorem headerCheck_length {snap : BitVec 1024} {code block : Nat} (hc : commandCode snap = code) (hb : blockSize code = some block)
    (hl : 112 < paramLength snap ∨ paramLength snap < block) : headerCheck snap = some (.badParam, 0xFFFF) := by
  unfold headerCheck
  rw [hc, hb]
  dsimp only
  by_cases h : 112 < paramLength snap
  · rw [if_pos h]
  · rw [if_neg h, if_pos (hl.resolve_left h)]

theorem blockSize_none {code : Nat} (h : code = 0 ∨ 9 < code) : blockSize code = none := by
  unfold blockSize
  split
  all_goals first | rfl | omega

/-- A row's command whose header check fails has no effect but its answer. -/
theorem exec_headed_refused {c : Instr} {r : Row} {body : BitVec 1024 → State → State} {s : State} {snap : BitVec 1024}
    {a : Answer} (he : exec c s = .next (s.runCommand r body)) (h : canBegin s snap) (ha : r.accepts snap = true)
    (hc : headerCheck snap = some a) : exec c s = .next (answered s snap [] a) := by
  rw [he, runCommand_header r body s snap a h ha hc, answer_beginCommand]

/-- The four bytes of the status word stand in lanes 24 to 27 of its beat (section 10.3). -/
theorem statusBeat_byte (word : Word) (n i : Nat) (hi : i < 4) :
    beatByte (maskedBeat 0x0F000000#32 (word.setWidth 256 <<< 192) n).data (24 + i) = word.extractLsb' (8 * i) 8 := by
  refine BitVec.eq_of_getLsbD_eq fun k hk => ?_
  have lane : ∀ q, 24 ≤ q → q < 28 → (0x0F000000#32).getLsbD q = true := by decide
  unfold beatByte maskedBeat
  dsimp only
  rw [BitVec.getLsbD_extractLsb', BitVec.getLsbD_extractLsb', mergeLanes_bit _ _ _ _ (by omega),
    lane _ (by omega) (by omega), if_pos rfl, BitVec.getLsbD_shiftLeft, BitVec.getLsbD_setWidth]
  simp [hk, show 8 * (24 + i) + k < 256 by omega, show ¬8 * (24 + i) + k < 192 by omega,
    show 8 * (24 + i) + k - 192 = 8 * i + k by omega, show 8 * i + k < 256 by omega]

/-- The bytes of the status word: code, sequence, detail low and high (section 10.3). -/
theorem statusWord_byte (a : Answer) (sequence : Nat) :
    (statusWord a sequence).extractLsb' (8 * 0) 8 = BitVec.ofNat 8 (statusCode a.1)
    ∧ (statusWord a sequence).extractLsb' (8 * 1) 8 = BitVec.ofNat 8 sequence
    ∧ (statusWord a sequence).extractLsb' (8 * 2) 8 = BitVec.ofNat 8 a.2
    ∧ (statusWord a sequence).extractLsb' (8 * 3) 8 = BitVec.ofNat 8 (a.2 / 256) := by
  have apart : (([(0, 1, statusCode a.1), (1, 1, sequence), (2, 2, a.2)] : List (Nat × Nat × Nat)).map fieldPlace).Pairwise
      FieldsApart := by
    simp [fieldPlace, FieldsApart]
  have byte (f : Nat × Nat × Nat) (hf : f ∈ [(0, 1, statusCode a.1), (1, 1, sequence), (2, 2, a.2)]) (i : Nat)
      (hi : i < f.2.1) (hn : 8 * (f.1 + i) + 8 ≤ 32) :
      (statusWord a sequence).extractLsb' (8 * (f.1 + i)) 8 = BitVec.ofNat 8 (f.2.2 / 256 ^ i) :=
    packFields_field apart hf hi hn
  refine ⟨?_, ?_, ?_, ?_⟩
  · have := byte (0, 1, statusCode a.1) (by simp) 0 (by simp) (by simp)
    rwa [pow_zero, Nat.div_one] at this
  · have := byte (1, 1, sequence) (by simp) 0 (by simp) (by simp)
    rwa [pow_zero, Nat.div_one] at this
  · have := byte (2, 2, a.2) (by simp) 0 (by simp) (by simp)
    rwa [pow_zero, Nat.div_one] at this
  · have := byte (2, 2, a.2) (by simp) 1 (by simp) (by simp)
    rwa [pow_one] at this

/-- Settles O41 (`headerCheck_length`, `statusBeat_byte`, `statusWord_byte`). -/
theorem headerChecksAnswer : Obligations.HeaderChecksAnswer := by
  refine ⟨fun s snap h => ⟨fun hc => ?_, fun c code block hm hc hl hon hoff hline hzones hprot => ?_⟩,
    fun address a sequence n hq ha => ⟨rfl, rfl, ⟨_, rfl⟩, _, rfl, fun j hj => ?_, ?_⟩⟩
  · have none := blockSize_none hc
    refine exec_headed_refused (r := .badCommand) (body := fun _ t => t) rfl h ?_ ?_
    · simp [Row.accepts, none]
    · simp [headerCheck, none]
  · simp only [List.mem_cons, Prod.mk.injEq, List.not_mem_nil, or_false] at hm
    rcases hm with ⟨rfl, rfl, rfl⟩ | ⟨rfl, rfl, rfl⟩ | ⟨rfl, rfl, rfl⟩ | ⟨rfl, rfl, rfl⟩ | ⟨rfl, rfl, rfl⟩ | ⟨rfl, rfl, rfl⟩
      | ⟨rfl, rfl, rfl⟩ | ⟨rfl, rfl, rfl⟩ | ⟨rfl, rfl, rfl⟩ | ⟨rfl, rfl, rfl⟩ | ⟨rfl, rfl, rfl⟩ | ⟨rfl, rfl, rfl⟩
    all_goals
      refine exec_headed_refused rfl h ?_ (headerCheck_length hc rfl hl)
      simp_all [Row.accepts]
  · have lanes : ∀ j, j < 32 → ((0x0F000000#32).getLsbD j = true ↔ 24 ≤ j ∧ j < 28) := by decide
    exact lanes j hj
  · obtain ⟨b0, b1, b2, b3⟩ := statusWord_byte a sequence
    have code : statusCode a.1 < 256 := by cases a.1 <;> decide
    have lane (i : Nat) (hi : i < 4) := statusBeat_byte (statusWord a sequence) n i hi
    refine ⟨?_, ?_, ?_, ?_⟩
    · rw [lane 0 (by decide), b0, BitVec.toNat_ofNat, Nat.mod_eq_of_lt code]
    · rw [lane 1 (by decide), b1, BitVec.toNat_ofNat, Nat.mod_eq_of_lt hq]
    · rw [lane 2 (by decide), b2, BitVec.toNat_ofNat]
    · rw [lane 3 (by decide), b3, BitVec.toNat_ofNat, Nat.mod_eq_of_lt (by omega)]

/-! ### READ_STATUS (R166, section 10.6) -/

/-- The fields of a scan result, with the values of section 10.6 where there is none. -/
def scanFields (r : Option Result) : List (Nat × Nat × Nat) :=
  [(0x37, 1, bit r.isSome), (0x38, 2, (r.map fun x => x.tag.toNat).getD 0), (0x3A, 2, (r.map fun x => x.mean).getD 0),
   (0x3C, 4, (r.map fun x => x.total).getD 0), (0x40, 4, (r.map fun x => x.cap).getD 0),
   (0x44, 4, (r.map fun x => x.scale).getD 0), (0x54, 1, (r.map fun x => setUsedCode x.setUsed).getD 0),
   (0x55, 1, (r.map fun x => x.window.val).getD 0), (0x56, 2, (r.map fun x => x.darkZones).getD 0),
   (0x58, 1, (r.map fun x => bit x.budgetLimited + 2 * bit x.boostLimited).getD 0)]

/-- The model's fields put the same bytes as those of section 10.6, which give 0 to an absent scan result. -/
theorem resultFields_bytes (r : Option Result) (b : Byte) (j : Nat) :
    (resultFields r).foldl (fun b f => b ||| fieldByte f j) b = (scanFields r).foldl (fun b f => b ||| fieldByte f j) b := by
  rcases r with _ | r
  · have zero : ∀ fs : List (Nat × Nat × Nat), (∀ f ∈ fs, f.2.2 = 0) →
        fs.foldl (fun b f => b ||| fieldByte f j) b = b := by
      intro fs
      induction fs with
      | nil => exact fun _ => rfl
      | cons f rest ih =>
        intro hf
        obtain ⟨hf, hr⟩ := List.forall_mem_cons.1 hf
        rw [List.foldl_cons, fieldByte_zero hf, BitVec.or_zero]
        exact ih hr
    refine (zero _ ?_).symm
    simp [scanFields, bit]
  · rfl

theorem statusBlock_bytes (s : State) {j : Nat} (hj : j < 256) :
    s.statusBlock.extractLsb' (8 * j) 8
      = (packFields 2048 (s.statusFields ++ scanFields s.scanRecord)).extractLsb' (8 * j) 8 := by
  unfold State.statusBlock
  rw [packFields_byte _ (by omega), packFields_byte _ (by omega), List.foldl_append, List.foldl_append, resultFields_bytes]

/-- The places of the status block's fields in the model's order (section 10.6). -/
theorem statusFields_places (s : State) :
    (s.statusFields ++ scanFields s.scanRecord).map fieldPlace
      = [(0x00, 4), (0x04, 4), (0x08, 1), (0x09, 1), (0x0A, 1), (0x0B, 1), (0x0C, 1), (0x0D, 1), (0x0E, 1), (0x0F, 1),
         (0x10, 2), (0x12, 1), (0x13, 1), (0x14, 4), (0x18, 1), (0x19, 1), (0x1A, 1), (0x1B, 1), (0x1C, 1), (0x1D, 1),
         (0x1E, 1), (0x1F, 1), (0x20, 1), (0x21, 1), (0x22, 1), (0x23, 1), (0x24, 1), (0x25, 1), (0x26, 1), (0x27, 1),
         (0x28, 1), (0x29, 1), (0x2A, 1), (0x2B, 1), (0x2C, 1), (0x2D, 1), (0x2E, 1), (0x2F, 1), (0x30, 2), (0x32, 2),
         (0x34, 2), (0x36, 1), (0x48, 2), (0x4C, 2), (0x4E, 2), (0x50, 2), (0x52, 2), (0x37, 1), (0x38, 2), (0x3A, 2),
         (0x3C, 4), (0x40, 4), (0x44, 4), (0x54, 1), (0x55, 1), (0x56, 2), (0x58, 1)] := rfl

theorem statusFields_apart (s : State) :
    ((s.statusFields ++ scanFields s.scanRecord).map fieldPlace).Pairwise FieldsApart := by
  rw [statusFields_places]
  unfold FieldsApart
  decide

theorem statusFields_within (s : State) {f : Nat × Nat × Nat} (h : f ∈ s.statusFields ++ scanFields s.scanRecord) :
    f.1 + f.2.1 ≤ 256 := by
  have within : ∀ q ∈ (s.statusFields ++ scanFields s.scanRecord).map fieldPlace, q.1 + q.2 ≤ 256 := by
    rw [statusFields_places]
    decide
  exact within _ (List.mem_map_of_mem h)

theorem mem_of_mem_slice {α : Type} {l : List α} {a n : Nat} {x : α} (h : x ∈ (l.drop a).take n) : x ∈ l :=
  List.mem_of_mem_drop (List.mem_of_mem_take h)

/-- The order of section 10.6 from the model's, in slices: the lines come last, the scan result between the rest. -/
def reordered (m : List (Nat × Nat × Nat)) : List (Nat × Nat × Nat) :=
  (m.drop 0).take 14 ++ (m.drop 30).take 12 ++ (m.drop 47).take 6 ++ (m.drop 42).take 5 ++ (m.drop 53).take 4
    ++ (m.drop 14).take 16

theorem mem_reordered {m : List (Nat × Nat × Nat)} (hm : m.length = 57) (f : Nat × Nat × Nat) : f ∈ reordered m ↔ f ∈ m := by
  constructor
  · intro h
    simp only [reordered, List.mem_append] at h
    rcases h with ((((h | h) | h) | h) | h) | h
    all_goals exact mem_of_mem_slice h
  · intro h
    obtain ⟨i, hi, rfl⟩ := List.mem_iff_getElem.1 h
    simp only [reordered, List.mem_append]
    have slice (a n : Nat) (h1 : a ≤ i) (h2 : i < a + n) : m[i] ∈ (m.drop a).take n := by
      rw [List.mem_take_iff_getElem]
      exact ⟨i - a, by simp; omega, by simp [Nat.add_sub_cancel' h1]⟩
    rw [hm] at hi
    by_cases h1 : i < 14
    · exact Or.inl (Or.inl (Or.inl (Or.inl (Or.inl (slice 0 14 (by omega) (by omega))))))
    · by_cases h2 : i < 30
      · exact Or.inr (slice 14 16 (by omega) (by omega))
      · by_cases h3 : i < 42
        · exact Or.inl (Or.inl (Or.inl (Or.inl (Or.inr (slice 30 12 (by omega) (by omega))))))
        · by_cases h4 : i < 47
          · exact Or.inl (Or.inl (Or.inr (slice 42 5 (by omega) (by omega))))
          · by_cases h5 : i < 53
            · exact Or.inl (Or.inl (Or.inl (Or.inr (slice 47 6 (by omega) (by omega)))))
            · exact Or.inl (Or.inr (slice 53 4 (by omega) (by omega)))

/-- READ_STATUS with an accepted header does what R166 says once it has begun. -/
theorem exec_readStatus (s : State) (snap : BitVec 1024) (h : canBegin s snap) (hh : headed snap 7 4) :
    exec .readStatus s = .next (State.runReadStatus snap (s.beginCommand snap)) :=
  congrArg Host.Outcome.next
    (runCommand_body .readStatus _ s snap h (by simp [Row.accepts, hh.1]) (headerCheck_headed snap 7 4 hh rfl))

theorem statusBlock_beginCommand (s : State) (snap : BitVec 1024) : (s.beginCommand snap).statusBlock = s.statusBlock := by
  have fields : (s.beginCommand snap).statusFields = s.statusFields := rfl
  have record : (s.beginCommand snap).scanRecord = s.scanRecord := rfl
  unfold State.statusBlock
  rw [fields, record]

theorem exec_readStatus_accepted (s : State) (snap : BitVec 1024) (h : canBegin s snap) (hh : headed snap 7 4)
    (hp : param snap 0 1 ≤ 1) :
    exec .readStatus s
      = .next
          (answered { s with accrued := if param snap 0 1 = 1 then 0 else s.accrued } snap
            [statusBlockWrite (s.controlBase + 0xC00) s.statusBlock] (.done, 0)) := by
  rw [exec_readStatus s snap h hh]
  unfold State.runReadStatus
  dsimp only
  rw [if_pos hp, statusBlock_beginCommand]
  generalize s.statusBlock = block
  by_cases hc : param snap 0 1 = 1
  · rw [if_pos hc, if_pos hc]
    rfl
  · rw [if_neg hc, if_neg hc]
    rfl

/-- Byte `i` of the block that the eight beats carry. -/
theorem statusBeats_byte (block : BitVec 2048) {i : Nat} (hi : i < 256) :
    ((((List.range 8).map fun k => ({ data := block.extractLsb' (256 * k) 256, enables := BitVec.allOnes 32 } : WriteBeat))[i / 32]?).map
        fun b => (beatByte b.data (i % 32)).toNat).getD 0
      = (block.extractLsb' (8 * i) 8).toNat := by
  rw [List.getElem?_map, List.getElem?_range (by omega)]
  show (beatByte (block.extractLsb' (256 * (i / 32)) 256) (i % 32)).toNat = _
  refine congrArg BitVec.toNat (BitVec.eq_of_getLsbD_eq fun k hk => ?_)
  unfold beatByte
  simp only [BitVec.getLsbD_extractLsb', hk, decide_true, Bool.true_and, show 8 * (i % 32) + k < 256 by omega]
  rw [show 256 * (i / 32) + (8 * (i % 32) + k) = 8 * i + k by omega]

/-- Settles O54: the fields of the block by `packFields_field` and `packFields_gap`, in the order of the model
(`mem_reordered`). -/
theorem statusIsReported : Obligations.StatusIsReported := by
  intro s snap h hh
  refine ⟨fun hp => ?_, fun hp => ?_⟩
  · rw [exec_readStatus s snap h hh, ← answer_beginCommand]
    exact congrArg Host.Outcome.next (if_neg (by omega))
  · intro p flag r scanned marked fields
    have order : fields = reordered (s.statusFields ++ scanFields s.scanRecord) := by
      unfold State.statusFields scanFields State.scanRecord
      dsimp only [fields, p, flag, r, scanned, marked]
      generalize s.protection.trip = trip
      generalize s.scan.pointer = pointer
      generalize s.scan.result = result
      cases trip <;> cases pointer <;> cases result <;> rfl
    have mem (f : Nat × Nat × Nat) : f ∈ fields ↔ f ∈ s.statusFields ++ scanFields s.scanRecord := by
      rw [order]
      exact mem_reordered rfl f
    refine ⟨_, _, exec_readStatus_accepted s snap h hh hp, rfl, rfl, rfl, rfl, rfl, fun b hb => ?_, ?_, ?_⟩
    · obtain ⟨i, -, rfl⟩ := List.mem_map.1 hb
      rfl
    · intro offset size value hf i hi
      have inside : offset + i < 256 := by
        have := statusFields_within s ((mem _).1 hf)
        dsimp only at this
        omega
      dsimp only
      rw [statusBeats_byte _ inside, statusBlock_bytes s inside,
        packFields_field (f := (offset, size, value)) (statusFields_apart s) ((mem _).1 hf) hi (by show 8 * (offset + i) + 8 ≤ 2048; omega),
        BitVec.toNat_ofNat]
    · intro i hi hf
      dsimp only
      rw [statusBeats_byte _ hi, statusBlock_bytes s hi, packFields_gap (by omega) fun f hg => hf f.1 f.2.1 f.2.2 ((mem f).2 hg)]
      rfl

/-! ### Event records (section 10.7) -/

/-- The fields of an event record. -/
def eventFields (e : Event) : List (Nat × Nat × Nat) :=
  [(0, 1, eventCode e.kind), (1, 1, subjectType e.subject), (2, 2, subjectField e.subject), (4, 4, e.time.toNat),
   (8, 2, e.detail.toNat)]

theorem eventRecord_byte (e : Event) {offset size value i : Nat} (hf : (offset, size, value) ∈ eventFields e) (hi : i < size)
    (hn : offset + i < 16) : (imageByte (eventRecord e) (offset + i)).toNat = value / 256 ^ i % 256 := by
  have places : (eventFields e).map fieldPlace = [(0, 1), (1, 1), (2, 2), (4, 4), (8, 2)] := rfl
  have apart : ((eventFields e).map fieldPlace).Pairwise FieldsApart := by
    rw [places]
    unfold FieldsApart
    decide
  unfold imageByte
  rw [show eventRecord e = packFields 128 (eventFields e) from rfl,
    packFields_field (f := (offset, size, value)) apart hf hi (by show 8 * (offset + i) + 8 ≤ 128; omega), BitVec.toNat_ofNat]

theorem eventRecord_gap (e : Event) {j : Nat} (h1 : 10 ≤ j) (h2 : j < 16) : imageByte (eventRecord e) j = 0#8 := by
  unfold imageByte
  rw [show eventRecord e = packFields 128 (eventFields e) from rfl, packFields_gap (by omega)]
  intro f hf
  simp only [eventFields, List.mem_cons, List.not_mem_nil, or_false] at hf
  rcases hf with rfl | rfl | rfl | rfl | rfl
  all_goals exact Or.inr (by dsimp only; omega)

/-- A 16-bit field of an event record. -/
theorem eventRecord_word (e : Event) {offset size value i : Nat} (hf : (offset, size, value) ∈ eventFields e) (hi : i + 1 < size)
    (hn : offset + i + 1 < 16) : imageWord (eventRecord e) (offset + i) = value / 256 ^ i % 65536 := by
  have low := eventRecord_byte e hf (i := i) (by omega) (by omega)
  have high := eventRecord_byte e hf (i := i + 1) (by omega) (by omega)
  unfold imageWord
  rw [low, show offset + i + 1 = offset + (i + 1) by omega, high, pow_succ, ← Nat.div_div_eq_div_mul]
  omega

/-- The model writes a record in the layout of section 10.7. -/
theorem eventRecord_laid (e : Event) : RecordLaid e (eventRecord e) := by
  have subject : imageWord (eventRecord e) 2 = subjectField e.subject % 65536 := by
    have := eventRecord_word e (offset := 2) (size := 2) (value := subjectField e.subject) (i := 0) (by simp [eventFields])
      (by omega) (by omega)
    rwa [pow_zero, Nat.div_one] at this
  have kind : (imageByte (eventRecord e) 1).toNat = subjectType e.subject % 256 := by
    have := eventRecord_byte e (offset := 1) (size := 1) (value := subjectType e.subject) (i := 0) (by simp [eventFields])
      (by omega) (by omega)
    rwa [pow_zero, Nat.div_one] at this
  refine ⟨⟨eventCode e.kind - 1, ?_, ?_⟩, ?_, ?_, ?_, fun j h1 h2 => eventRecord_gap e h1 h2⟩
  · cases e.kind <;> rfl
  · have := eventRecord_byte e (offset := 0) (size := 1) (value := eventCode e.kind) (i := 0) (by simp [eventFields])
      (by omega) (by omega)
    rw [pow_zero, Nat.div_one] at this
    rw [show (0 : Nat) = 0 + 0 from rfl, this]
    cases e.kind <;> rfl
  · have type (n : Nat) (h : subjectType e.subject = n) (hn : n < 256) : imageByte (eventRecord e) 1 = BitVec.ofNat 8 n := by
      refine BitVec.eq_of_toNat_eq ?_
      rw [kind, h, BitVec.toNat_ofNat]
    split
    · next h => exact ⟨type 0 (by rw [h]; rfl) (by decide), by rw [subject, h]; rfl⟩
    · next z h => exact ⟨type 1 (by rw [h]; rfl) (by decide), by rw [subject, h]; rfl⟩
    · next l h =>
      refine ⟨type 2 (by rw [h]; rfl) (by decide), ?_⟩
      rw [subject, h]
      exact Nat.mod_eq_of_lt (show l.val < 65536 by omega)
    · next w h =>
      refine ⟨type 3 (by rw [h]; rfl) (by decide), ?_⟩
      rw [subject, h]
      exact Nat.mod_eq_of_lt (show w.val < 65536 by omega)
    · next x h =>
      refine ⟨type 4 (by rw [h]; rfl) (by decide), tableCode x - 1, ?_, ?_⟩
      · cases x <;> rfl
      · rw [subject, h]
        cases x <;> rfl
  · have low := eventRecord_word e (offset := 4) (size := 4) (value := e.time.toNat) (i := 0) (by simp [eventFields])
      (by omega) (by omega)
    have high := eventRecord_word e (offset := 4) (size := 4) (value := e.time.toNat) (i := 2) (by simp [eventFields])
      (by omega) (by omega)
    rw [pow_zero, Nat.div_one] at low
    have := e.time.isLt
    rw [show (4 : Nat) = 4 + 0 from rfl, low, show (6 : Nat) = 4 + 2 from rfl, high]
    omega
  · have := eventRecord_word e (offset := 8) (size := 2) (value := e.detail.toNat) (i := 0) (by simp [eventFields])
      (by omega) (by omega)
    rw [pow_zero, Nat.div_one] at this
    rw [show (8 : Nat) = 8 + 0 from rfl, this]
    exact Nat.mod_eq_of_lt e.detail.isLt

/-! ### READ_EVENTS (R168) -/

/-- The request that carries beats `8 i` onward of `n` records. -/
def eventRequest (address : Nat) (records : List Event) (n i : Nat) : Injected :=
  { request :=
      { requester := 63
        address := BitVec.ofNat 32 (address + 256 * i)
        body := .write ((List.range' (8 * i) (min 8 ((records.length + 1) / 2 - 8 * i))).map (eventBeat records n)) }
    purpose := .data }

theorem eventWrites_eq (address : Nat) (records : List Event) (n : Nat) :
    eventWrites address records n
      = (List.range (((records.length + 1) / 2 + 7) / 8)).map (eventRequest address records n) := rfl

theorem eventRequest_beatCount (address : Nat) (records : List Event) (n i : Nat) :
    (eventRequest address records n i).request.beatCount = min 8 ((records.length + 1) / 2 - 8 * i) := by
  unfold eventRequest Request.beatCount
  dsimp only
  rw [List.length_map, List.length_range']

theorem getElem?_eventWrites {address : Nat} {records : List Event} {n i : Nat} {q : Injected}
    (h : (eventWrites address records n)[i]? = some q) :
    i < ((records.length + 1) / 2 + 7) / 8 ∧ q = eventRequest address records n i := by
  rw [eventWrites_eq, List.getElem?_map] at h
  by_cases hi : i < ((records.length + 1) / 2 + 7) / 8
  · rw [List.getElem?_range hi] at h
    cases h
    exact ⟨hi, rfl⟩
  · rw [List.getElem?_eq_none (by simpa using hi)] at h
    cases h

/-- Requests of up to 8 beats carry `b` beats together. -/
theorem sum_eights (b m : Nat) : ((List.range m).map fun i => min 8 (b - 8 * i)).sum = min b (8 * m) := by
  induction m with
  | zero => simp
  | succ m ih =>
    rw [List.range_succ, List.map_append, List.sum_append, ih]
    simp
    omega

/-- Beat `m` of request `i` is beat `8 i + m` of the records. -/
theorem getElem?_eventRequest {records : List Event} {n i m : Nat} (h : m < min 8 ((records.length + 1) / 2 - 8 * i)) :
    ((List.range' (8 * i) (min 8 ((records.length + 1) / 2 - 8 * i))).map (eventBeat records n))[m]?
      = some (eventBeat records n (8 * i + m)) := by
  rw [List.getElem?_map, List.getElem?_range' h, Nat.one_mul]
  rfl

/-- A beat enables the bytes of its records and no others. -/
theorem eventBeat_enables (records : List Event) (n j x : Nat) (hx : x < 32) :
    (eventBeat records n j).enables.getLsbD x = decide (32 * j + x < 16 * records.length) := by
  have half : ∀ x, x < 32 → (0x0000FFFF#32).getLsbD x = decide (x < 16) := by decide
  unfold eventBeat
  split
  · next a b ha hb =>
    obtain ⟨hb, -⟩ := List.getElem?_eq_some_iff.1 hb
    rw [BitVec.getLsbD_allOnes, decide_eq_decide]
    omega
  · next a ha hb =>
    obtain ⟨ha, -⟩ := List.getElem?_eq_some_iff.1 ha
    have hb := List.getElem?_eq_none_iff.1 hb
    show (0x0000FFFF#32).getLsbD x = _
    rw [half x hx, decide_eq_decide]
    omega
  · next ha =>
    have ha := List.getElem?_eq_none_iff.1 ha
    refine (BitVec.getLsbD_zero ..).trans (decide_eq_false ?_).symm
    omega

/-- Each half of a beat is the record that stands there. -/
theorem eventBeat_record {records : List Event} {n j : Nat} {e : Event} (h : records[j]? = some e) :
    (eventBeat records n (j / 2)).data.extractLsb' (128 * (j % 2)) 128 = eventRecord e := by
  have half : ∀ x, x < 16 → (0x0000FFFF#32).getLsbD x = true := by decide
  rcases Nat.mod_two_eq_zero_or_one j with hj | hj
  · have first : records[2 * (j / 2)]? = some e := by rw [show 2 * (j / 2) = j by omega]; exact h
    refine BitVec.eq_of_getLsbD_eq fun k hk => ?_
    rw [hj, BitVec.getLsbD_extractLsb', decide_eq_true hk, Bool.true_and, Nat.mul_zero, Nat.zero_add]
    unfold eventBeat
    rw [first]
    rcases records[2 * (j / 2) + 1]? with _ | b
    · show (mergeLanes _ _ _).getLsbD k = _
      rw [mergeLanes_bit _ _ _ _ (by omega), half _ (by omega), if_pos rfl, BitVec.getLsbD_setWidth]
      simp [show k < 256 by omega]
    · show (eventRecord b ++ eventRecord e).getLsbD k = _
      rw [BitVec.getLsbD_append]
      simp [hk]
  · have second : records[2 * (j / 2) + 1]? = some e := by rw [show 2 * (j / 2) + 1 = j by omega]; exact h
    obtain ⟨hlt, -⟩ := List.getElem?_eq_some_iff.1 second
    refine BitVec.eq_of_getLsbD_eq fun k hk => ?_
    rw [hj, BitVec.getLsbD_extractLsb', decide_eq_true hk, Bool.true_and, Nat.mul_one]
    unfold eventBeat
    rw [List.getElem?_eq_getElem (show 2 * (j / 2) < records.length by omega), second]
    show (eventRecord e ++ eventRecord _).getLsbD (128 + k) = _
    rw [BitVec.getLsbD_append]
    simp

/-- READ_EVENTS with an accepted header does what R168 says once it has begun. -/
theorem exec_readEvents (s : State) (snap : BitVec 1024) (h : canBegin s snap) (hh : headed snap 8 4) :
    exec .readEvents s = .next (State.runReadEvents snap (s.beginCommand snap)) :=
  congrArg Host.Outcome.next
    (runCommand_body .readEvents _ s snap h (by simp [Row.accepts, hh.1]) (headerCheck_headed snap 8 4 hh rfl))

theorem exec_readEvents_accepted (s : State) (snap : BitVec 1024) (h : canBegin s snap) (hh : headed snap 8 4)
    (hp : param snap 0 2 ≠ 0) :
    let k := min (min (param snap 0 2) 32) s.events.length
    exec .readEvents s
      = .next
          (answered { s with events := s.events.drop k, freeCount := s.freeCount + 1 } snap
            (eventWrites (s.controlBase + 0x800) (s.events.take k) s.freeCount)
            (if 32 < param snap 0 2 ∧ s.events ≠ [] then .clamped else .done, k)) := by
  intro k
  have clamps : (if 32 < param snap 0 2 ∧ s.events ≠ [] then Status.clamped else .done)
      = if 32 < param snap 0 2 ∧ k ≠ 0 then .clamped else .done := by
    refine if_congr (and_congr_right fun _ => ?_) rfl rfl
    rw [← List.length_pos_iff_ne_nil]
    omega
  rw [exec_readEvents s snap h hh, clamps]
  exact congrArg Host.Outcome.next (if_neg hp)

/-- Settles O55: the requests by `getElem?_eventWrites` and `sum_eights`, their beats by `eventBeat_enables` and
`eventBeat_record`. -/
theorem eventsAreReported : Obligations.EventsAreReported := by
  intro s snap h hh
  refine ⟨fun hp => ?_, fun hp => ?_⟩
  · rw [exec_readEvents s snap h hh, ← answer_beginCommand]
    exact congrArg Host.Outcome.next (if_pos hp)
  · intro k
    have count : (s.events.take k).length = k := by
      rw [List.length_take]
      omega
    have run := exec_readEvents_accepted s snap h hh (by omega)
    refine ⟨_, run, ?_, fun i q hq => ?_, fun i q beats m b hq hb hm x hx => ?_, fun j e hj he => ?_⟩
    · rw [eventWrites_eq, List.map_map]
      simp only [Function.comp_def, eventRequest_beatCount]
      rw [sum_eights, count]
      omega
    · have length : (eventWrites (s.controlBase + 0x800) (s.events.take k) s.freeCount).length = ((k + 1) / 2 + 7) / 8 := by
        rw [eventWrites_eq, List.length_map, List.length_range, count]
      obtain ⟨hi, rfl⟩ := getElem?_eventWrites hq
      rw [count] at hi
      refine ⟨rfl, rfl, rfl, rfl, fun hn => ?_, ?_⟩
      · rw [eventRequest_beatCount, count]
        rw [length] at hn
        omega
      · rw [eventRequest_beatCount]
        omega
    · obtain ⟨hi, rfl⟩ := getElem?_eventWrites hq
      cases hb
      have hlt : m < min 8 (((s.events.take k).length + 1) / 2 - 8 * i) := by
        have := (List.getElem?_eq_some_iff.1 hm).1
        rwa [List.length_map, List.length_range'] at this
      rw [getElem?_eventRequest hlt] at hm
      cases hm
      rw [eventBeat_enables _ _ _ _ hx, count]
    · have taken : (s.events.take k)[j]? = some e := by
        rw [List.getElem?_take_of_lt hj]
        exact he
      refine ⟨eventRequest (s.controlBase + 0x800) (s.events.take k) s.freeCount (j / 16), _,
        eventBeat (s.events.take k) s.freeCount (j / 2), ?_, rfl, ?_, ?_⟩
      · rw [eventWrites_eq, List.getElem?_map, List.getElem?_range (by rw [count]; omega)]
        rfl
      · rw [getElem?_eventRequest (by rw [count]; omega), show 8 * (j / 16) + j % 16 / 2 = j / 2 by omega]
      · rw [eventBeat_record taken]
        exact eventRecord_laid e

end Sys2Proof.Laws
end

section
/-! SUPPORT. BACKLIGHT, CLEAR_FAULT for a line and for protection, and LOAD_TABLE (R124, R131, R132, R147, R157, R159). -/

namespace Sys2Proof.Laws

-- Each proof may wait for an earlier one; run one after another they need no thread each.
set_option Elab.async false

open Sys2Proof Sys2Proof.Machine Sys2Proof.Safety

/-! ### The answer after effects that leave the ring alone -/

/-- The answer of a command whose effects `u` touch neither the ring nor what its status word write is made of. -/
theorem answer_effects {ps : List Piece} {s u : State} {snap : BitVec 1024} (h : Outside ps (s.beginCommand snap) u)
    (data : List Injected) (a : Answer) (hr : Piece.ring ∉ ps := by decide) (hc : Piece.cfg ∉ ps := by decide)
    (hf : Piece.freeCount ∉ ps := by decide) :
    u.answer data a = { u with ring := (answered s snap data a).ring, freeCount := s.freeCount + 1 } := by
  have count : u.freeCount = s.freeCount := h .freeCount hf
  rw [answer_begun s u snap data a (h .ring hr) (h .cfg hc), count]
  rfl

theorem outside_ring_freeCount (u : State) (r : Ring) (n : Nat) :
    Outside [.ring, .freeCount] u { u with ring := r, freeCount := n } := fun p hp => by
  cases p <;> first | rfl | exact absurd (by decide) hp

theorem outside_begun (s : State) (snap : BitVec 1024) : Outside [.ring] s (s.beginCommand snap) := outside_beginCommand snap s

/-! ### BACKLIGHT (R131, R132) -/

theorem exec_backlightOn {s : State} {snap : BitVec 1024} (h : canBegin s snap) (hh : headed snap 5 4) (hp : param snap 0 1 ≠ 0) :
    exec .backlightOn s = .next (State.runBacklightOn snap (s.beginCommand snap)) :=
  congrArg Host.Outcome.next
    (runCommand_body .backlightOn _ s snap h (by simp [Row.accepts, hh.1, hp]) (headerCheck_headed snap 5 4 hh rfl))

theorem exec_backlightOff {s : State} {snap : BitVec 1024} (h : canBegin s snap) (hh : headed snap 5 4) (hp : param snap 0 1 ≠ 1) :
    exec .backlightOff s = .next (State.runBacklightOff snap (s.beginCommand snap)) :=
  congrArg Host.Outcome.next
    (runCommand_body .backlightOff _ s snap h (by simp [Row.accepts, hh.1, hp]) (headerCheck_headed snap 5 4 hh rfl))

/-- BACKLIGHT(ON) runs the table of R131. -/
theorem exec_backlightOn_on {s : State} {snap : BitVec 1024} (h : canBegin s snap) (hh : headed snap 5 4) (hp : param snap 0 1 = 1) :
    exec .backlightOn s = .next (s.beginCommand snap).backlightOn := by
  rw [exec_backlightOn h hh (by omega)]
  exact congrArg Host.Outcome.next (if_pos hp)

/-- BACKLIGHT(OFF) runs the table of R132. -/
theorem exec_backlightOff_off {s : State} {snap : BitVec 1024} (h : canBegin s snap) (hh : headed snap 5 4) (hp : param snap 0 1 = 0) :
    exec .backlightOff s = .next ((s.beginCommand snap).backlightOff.answer [] (.done, 0)) := by
  rw [exec_backlightOff h hh (by omega)]
  exact congrArg Host.Outcome.next (if_pos hp)

theorem positionsExist_iff (s : State) :
    s.positionsExist = true
      ↔ ∀ z c, z < s.grid.zones → s.zoneChannel z = some c → c.position.val < s.driverCount c.line := by
  unfold State.positionsExist
  rw [List.all_eq_true]
  refine ⟨fun h z c hz hc => ?_, fun h z hz => ?_⟩
  · have := h z (List.mem_range.2 hz)
    rw [hc] at this
    exact of_decide_eq_true this
  · rcases hc : s.zoneChannel z with _ | c
    · rfl
    · exact decide_eq_true (h z c (List.mem_range.1 hz) hc)

/-- The checks of R131 in OFF, in their order. -/
abbrev backlightChecks (s : State) : List (Prop × Nat) :=
  [(s.protection.thermal ≠ .shutdown, 1), (s.tables.zoneMapState = .valid, 2), (s.tables.lineSetupState = .valid, 3),
   (s.tables.limitsState = .valid, 4),
   (∀ z c, z < s.grid.zones → s.zoneChannel z = some c → c.position.val < s.driverCount c.line, 5)]

/-- The model makes the checks of the table and no other, each answered STATE with its detail. -/
theorem backlightCheck_firstFailing (s : State) :
    FirstFailing none (s.backlightCheck.map fun d => (.state, d)) ((backlightChecks s).map fun q => (q.1, (.state, q.2))) := by
  have branches : s.backlightCheck.map (fun d => ((.state, d) : Answer))
      = if s.protection.thermal = .shutdown then some (.state, 1)
        else if s.tables.zoneMapState ≠ .valid then some (.state, 2)
        else if s.tables.lineSetupState ≠ .valid then some (.state, 3)
        else if s.tables.limitsState ≠ .valid then some (.state, 4)
        else if s.positionsExist = false then some (.state, 5)
        else none := by
    unfold State.backlightCheck
    split_ifs <;> rfl
  rw [branches]
  refine .branch not_not.symm fun _ => .branch Iff.rfl fun _ => .branch Iff.rfl fun _ => .branch Iff.rfl fun _ => ?_
  refine .branch ?_ fun _ => rfl
  rw [← positionsExist_iff, Bool.not_eq_true]

theorem backlightOn_begun_off {s : State} (snap : BitVec 1024) (hb : s.protection.backlight = .off) :
    (s.beginCommand snap).backlightOn
      = match s.backlightCheck with
        | some d => (s.beginCommand snap).answer [] (.state, d)
        | none => (((s.beginCommand snap).setTarget true).powerUpBegin).answer [] (.done, 0) := by
  have begun : (s.beginCommand snap).protection.backlight = .off := hb
  unfold State.backlightOn
  rw [begun]
  rfl

/-- Settles O46: the power-up by `powerUpBegin_spec`, the checks by `backlightCheck_firstFailing`. -/
theorem backlightOnIsAnswered : Obligations.BacklightOnIsAnswered := by
  refine ⟨fun s snap h hh hp hb h1 h2 h3 h4 h5 => ?_, fun s snap h hh => ⟨fun hp => ⟨?_, ?_⟩, fun hp => ⟨fun hb => ?_, fun hb => ?_,
    fun hb ht => ?_, fun hb ht => ?_, fun hb => ?_, fun hb => ?_⟩⟩⟩
  · have passes : s.backlightCheck = none := by
      have := (backlightCheck_firstFailing s).eq_rest (by simpa using ⟨h1, h2, h3, h4, h5⟩)
      simpa using this
    have dark : ((s.beginCommand snap).setTarget true).protection.backlight ≠ .poweringUp := by
      show s.protection.backlight ≠ .poweringUp
      rw [hb]
      decide
    have frame : Outside powerPieces (s.beginCommand snap) ((s.beginCommand snap).setTarget true).powerUpBegin :=
      outside_step (outside_powerUpBegin _) (by decide) (outside_mono (outside_setTarget true _) (by decide))
    have spec := powerUpBegin_spec _ dark
    rw [exec_backlightOn_on h hh hp, backlightOn_begun_off snap hb, passes]
    dsimp only
    rw [answer_effects frame]
    refine ⟨_, rfl, spec, rfl, ?_⟩
    exact outside_step (outside_ring_freeCount _ _ _) (by decide)
      (outside_step frame (by decide) (outside_mono (outside_begun s snap) (by decide)))
  · rw [exec_backlightOn h hh (by omega), ← answer_beginCommand]
    exact congrArg Host.Outcome.next (if_neg (by omega))
  · rw [exec_backlightOff h hh (by omega), ← answer_beginCommand]
    exact congrArg Host.Outcome.next (if_neg (by omega))
  all_goals rw [exec_backlightOn_on h hh hp]
  · rw [← answer_beginCommand]
    refine congrArg Host.Outcome.next ?_
    unfold State.backlightOn
    rcases hb with hb | hb
    · rw [show (s.beginCommand snap).protection.backlight = .poweringUp from hb]
      rfl
    · rw [show (s.beginCommand snap).protection.backlight = .on from hb]
      rfl
  · rw [← answer_beginCommand]
    unfold State.backlightOn
    rw [show (s.beginCommand snap).protection.backlight = .poweringDown from hb]
  · rw [← answer_beginCommand]
    unfold State.backlightOn
    rw [show (s.beginCommand snap).protection.backlight = .thermalOff from hb]
    exact congrArg Host.Outcome.next (if_pos ht)
  · rw [← answer_beginCommand]
    unfold State.backlightOn
    rw [show (s.beginCommand snap).protection.backlight = .thermalOff from hb]
    exact congrArg Host.Outcome.next (if_neg (by rw [show (s.beginCommand snap).protection.target = false from ht]; decide))
  · rw [← answer_beginCommand]
    unfold State.backlightOn
    rw [show (s.beginCommand snap).protection.backlight = .latchedOff from hb]
  · intro checks before p d after hc hq hn
    have fails : s.backlightCheck = some d := by
      have table : (backlightChecks s).map (fun q => (q.1, ((.state, q.2) : Answer)))
          = before.map (fun q => (q.1, ((.state, q.2) : Answer)))
            ++ (p, (.state, d)) :: after.map fun q => (q.1, ((.state, q.2) : Answer)) := by
        rw [show backlightChecks s = checks from rfl, hc, List.map_append, List.map_cons]
      have first := backlightCheck_firstFailing s
      rw [table] at first
      have := first.eq_some (fun q hm => by obtain ⟨r, hr, rfl⟩ := List.mem_map.1 hm; exact hq r hr) hn
      simpa using this
    rw [backlightOn_begun_off snap hb, fails, ← answer_beginCommand]

/-- What the beginning of a power-down makes of a line once the ceiling is settled (R134). -/
def unlessRunning (x : Line) : Line :=
  if x.state = .running then x else if x.state = .off ∨ x.state = .locked then x else stoppedLine x

theorem stopUnlessRunning_eq (l : LineNo) (s : State) : s.stopUnlessRunning l = s.modifyLine l unlessRunning := by
  unfold State.stopUnlessRunning State.stopOrder
  by_cases hr : s.lines[l].state = .running
  · rw [if_pos hr]
    exact (modifyLine_self l s unlessRunning (if_pos hr)).symm
  · rw [if_neg hr]
    by_cases hd : s.lines[l].state = .off ∨ s.lines[l].state = .locked
    · rw [if_pos hd]
      exact (modifyLine_self l s unlessRunning ((if_neg hr).trans (if_pos hd))).symm
    · rw [if_neg hd]
      unfold State.modifyLine
      dsimp only
      rw [stoppedLine_eq, show unlessRunning s.lines[l] = stoppedLine s.lines[l] from (if_neg hr).trans (if_neg hd)]

theorem stopUnlessRunning_get (s : State) (m : LineNo) :
    (forLines State.stopUnlessRunning s).lines[m] = unlessRunning s.lines[m] :=
  forLines_get (g := fun _ => unlessRunning) s (fun l t _ => stopUnlessRunning_eq l t) m

/-- The state in which the beginning of a power-down is tested (R134). -/
def fallingState (s : State) : State :=
  forLines State.stopUnlessRunning
    (((s.setBacklight .poweringDown).setSequencer .draining .stopped).settleCeiling s.ceiling)

theorem powerDownBegin_eq (s : State) : s.powerDownBegin = (fallingState s).powerDownTest := rfl

theorem outside_fallingState (s : State) : Outside powerPieces s (fallingState s) := by
  refine outside_step (outside_forLines (fun l t => outside_stopUnlessRunning l t) _) (by decide) ?_
  refine outside_step (outside_settleCeiling _ _) (by decide) ?_
  refine outside_step (outside_setSequencer _ _ _) (by decide) ?_
  exact outside_mono (outside_setBacklight _ s) (by decide)

theorem fallingState_spec (s : State) (hb : s.protection.backlight ≠ .poweringDown) :
    (fallingState s).protection
        = { s.protection with backlight := .poweringDown, sequencer := .draining, stepTimer := .stopped }
    ∧ (∀ l : LineNo,
        (fallingState s).lines[l]
          = if s.lines[l].state = .running then
              (if s.ceiling = 0 then s.lines[l] else markedLine (s.driverCount l) s.lines[l])
            else if s.lines[l].state = .off ∨ s.lines[l].state = .locked then s.lines[l]
            else stoppedLine s.lines[l])
    ∧ (fallingState s).events = eventsAfter s.events s.ms .backlightState .none 3
    ∧ flagsAdded s (fallingState s) (overrun s) := by
  obtain ⟨protection, events, flags⟩ := setBacklight_spec .poweringDown s
  rw [if_neg (Ne.symm hb)] at events flags
  have so := outside_setBacklight .poweringDown s
  generalize hu : (s.setBacklight .poweringDown).setSequencer .draining .stopped = u
  have uo : Outside [.protection, .events, .accrued] s u := by
    rw [← hu]
    exact outside_step (outside_setSequencer _ _ _) (by decide) so
  have up : u.protection = { s.protection with backlight := .poweringDown, sequencer := .draining, stepTimer := .stopped } := by
    rw [← hu]
    show { (s.setBacklight .poweringDown).protection with sequencer := .draining, stepTimer := .stopped } = _
    rw [protection]
  have frame : Outside [.lines] u (fallingState s) := by
    unfold fallingState
    rw [hu]
    exact outside_step (outside_forLines (fun l t => outside_stopUnlessRunning l t) _) (by decide) (outside_settleCeiling _ u)
  have ceiling : u.ceiling = 0 := ceiling_falling (by rw [up])
  have lines : u.lines = s.lines := uo .lines (by decide)
  have drivers (l : LineNo) : u.driverCount l = s.driverCount l := by
    unfold State.driverCount
    rw [show u.tables = s.tables from uo .tables (by decide)]
  refine ⟨(frame .protection (by decide)).trans up, fun l => ?_, ?_, ?_⟩
  · unfold fallingState
    rw [hu, stopUnlessRunning_get, settleCeiling_get, ceiling, drivers, lines]
    by_cases hr : s.lines[l].state = .running
    · rw [if_pos hr]
      by_cases hc : s.ceiling = 0
      · rw [if_pos hc, if_neg fun h => h.1 hc.symm]
        exact if_pos hr
      · rw [if_neg hc, if_pos ⟨Ne.symm hc, hr⟩]
        exact if_pos hr
    · rw [if_neg hr, if_neg fun h => hr h.2]
      exact if_neg hr
  · rw [frame .events (by decide), ← hu]
    exact events
  · exact flagsAdded_congr_state flags rfl (by rw [frame .accrued (by decide), ← hu]; rfl)

/-- Settles O47: the beginning of the power-down by `fallingState_spec`, its test by `powerDownTest_spec`. -/
theorem backlightOffIsAnswered : Obligations.BacklightOffIsAnswered := by
  refine ⟨fun s snap h hh hp hb => ?_, fun s snap h hh hp => ⟨fun hb => ?_, fun hb => ?_⟩⟩
  all_goals rw [exec_backlightOff_off h hh hp]
  · generalize hu : (s.beginCommand snap).setTarget false = u
    have ub : u.protection.backlight = s.protection.backlight := by rw [← hu]; rfl
    have begins : (s.beginCommand snap).backlightOff = (fallingState u).powerDownTest := by
      rw [← powerDownBegin_eq, ← hu]
      unfold State.backlightOff
      rcases hb with hb | hb
      · rw [show (s.beginCommand snap).protection.backlight = .on from hb]
      · rw [show (s.beginCommand snap).protection.backlight = .poweringUp from hb]
    have uo : Outside [.protection] (s.beginCommand snap) u := by
      rw [← hu]
      exact outside_setTarget false _
    have ceiling : u.ceiling = s.ceiling := by rw [← hu]; rfl
    obtain ⟨protection, lines, events, flags⟩ := fallingState_spec u (by rw [ub]; rcases hb with hb | hb <;> rw [hb] <;> decide)
    have ao : Outside powerPieces (s.beginCommand snap) (fallingState u) :=
      outside_step (outside_fallingState u) (by decide) (outside_mono uo (by decide))
    have spec := powerDownTest_spec (fallingState u) (by rw [protection]; exact nofun) (by rw [protection]; exact Or.inl rfl)
    have frame : Outside powerPieces (s.beginCommand snap) (fallingState u).powerDownTest :=
      outside_step (outside_powerDownTest _) (by decide) ao
    have drivers (l : LineNo) : u.driverCount l = s.driverCount l := by rw [← hu]; rfl
    have start : u.protection = { s.protection with target := false } ∧ u.lines = s.lines ∧ u.events = s.events
        ∧ u.ms = s.ms ∧ u.accrued = s.accrued := by
      rw [← hu]
      exact ⟨rfl, rfl, rfl, rfl, rfl⟩
    obtain ⟨sp, sl, se, sm, sa⟩ := start
    rw [sp] at protection
    rw [se, sm] at events
    simp only [ceiling, drivers, sl] at lines
    have outer {t : State} (h : Outside powerPieces (s.beginCommand snap) t) :
        Outside [.protection, .lines, .events, .accrued, .ring, .freeCount] s t :=
      outside_step h (by decide) (outside_mono (outside_begun s snap) (by decide))
    have same : overrun u = overrun s := by
      unfold overrun
      rw [se]
    rw [same] at flags
    rw [begins, answer_effects frame]
    generalize fallingState u = a at *
    generalize a.powerDownTest = v at spec frame ⊢
    refine ⟨a, _, rfl, protection, lines, events, flagsAdded_congr_state flags sa.symm rfl, outer ao, spec, rfl,
      outside_step (outside_ring_freeCount _ _ _) (by decide) (outer frame), fun hc ⟨l, hl⟩ => ?_⟩
    have marked : a.lines[l] = markedLine (s.driverCount l) s.lines[l] := by
      rw [lines l, if_pos hl, if_neg hc]
    obtain ⟨-, waits, -⟩ := spec
    have runs : a.lines[l].state = .running := by
      rw [marked]
      exact hl
    obtain ⟨tl, tp, te, -⟩ := waits ⟨l, runs⟩ (Or.inr ⟨l, runs, by rw [marked]; rfl⟩)
    exact ⟨tp, tl, te, ceiling_falling (by show v.protection.backlight = _; rw [tp, protection])⟩
  · rw [← answer_beginCommand]
    unfold State.backlightOff
    rcases hb with hb | hb | hb
    · rw [show (s.beginCommand snap).protection.backlight = .off from hb]
      rfl
    · rw [show (s.beginCommand snap).protection.backlight = .poweringDown from hb]
      rfl
    · rw [show (s.beginCommand snap).protection.backlight = .latchedOff from hb]
      rfl
  · have ends : (s.beginCommand snap).backlightOff = ((s.beginCommand snap).setTarget false).setBacklight .off := by
      unfold State.backlightOff
      rw [show (s.beginCommand snap).protection.backlight = .thermalOff from hb]
    have dark : ¬Backlight.off = s.protection.backlight := by rw [hb]; decide
    obtain ⟨protection, events, flags⟩ := setBacklight_spec .off ((s.beginCommand snap).setTarget false)
    have frame : Outside powerPieces (s.beginCommand snap) (((s.beginCommand snap).setTarget false).setBacklight .off) :=
      outside_step (outside_setBacklight _ _) (by decide) (outside_mono (outside_setTarget false _) (by decide))
    rw [ends, answer_effects frame]
    refine ⟨_, rfl, protection, events.trans (if_neg dark), ?_, rfl, ?_⟩
    · exact flagsAdded_congr_state (flagsAdded_congr flags fun f => iff_of_eq (congrArg (f ∈ ·) (if_neg dark))) rfl rfl
    · have frame' : Outside [.protection, .events, .accrued] (s.beginCommand snap)
          (((s.beginCommand snap).setTarget false).setBacklight .off) :=
        outside_step (outside_setBacklight _ _) (by decide) (outside_mono (outside_setTarget false _) (by decide))
      exact outside_step (outside_ring_freeCount _ _ _) (by decide)
        (outside_step frame' (by decide) (outside_mono (outside_begun s snap) (by decide)))

/-! ### CLEAR_FAULT for a line (R124, R157) -/

/-- The effects of CLEAR_FAULT for a line as one record update. -/
theorem clearLine_eq (l : LineNo) (s : State) :
    s.clearLine l
      = { s with
          lines := s.lines.set l
            (if s.lines[l].state = .locked then
              if (s.protection.backlight = .on ∨ s.protection.backlight = .poweringUp) ∧ 0 < s.driverCount l then
                startedLine s.limits.slotUs { s.lines[l] with history := [], failures := 0 }
              else { s.lines[l] with history := [], failures := 0, state := .off }
            else { s.lines[l] with history := [], failures := 0 }) } := by
  unfold State.clearLine
  dsimp only
  have line : (s.modifyLine l fun x => { x with history := [], failures := 0 }).lines[l].state = s.lines[l].state := by
    rw [modifyLine_get, if_pos rfl]
  rw [line]
  by_cases hk : s.lines[l].state = .locked
  · have unlocked : (s.modifyLine l fun x => { x with history := [], failures := 0 }).modifyLine l (fun x => { x with state := .off })
        = { s with lines := s.lines.set l { s.lines[l] with history := [], failures := 0, state := .off } } := by
      unfold State.modifyLine
      simp
    rw [if_pos hk, if_pos hk, unlocked]
    by_cases hb : (s.protection.backlight = .on ∨ s.protection.backlight = .poweringUp) ∧ 0 < s.driverCount l
    · rw [if_pos hb]
      refine (if_pos hb).trans ?_
      rw [startOrder_eq]
      simp
      rfl
    · rw [if_neg hb]
      exact if_neg hb
  · rw [if_neg hk, if_neg hk]
    rfl

theorem clearLine_beginCommand (l : LineNo) (snap : BitVec 1024) (s : State) :
    (s.beginCommand snap).clearLine l = (s.clearLine l).beginCommand snap := by
  rw [clearLine_eq, clearLine_eq]
  rfl

/-- A CLEAR_FAULT of a row that accepts its kind does what R157 says once it has begun. -/
theorem exec_clearFaultLine {s : State} {snap : BitVec 1024} (h : canBegin s snap) (hh : headed snap 9 4)
    (h2 : param snap 0 1 ≠ 2) (h3 : param snap 0 1 ≠ 3) :
    exec .clearFaultLine s = .next (State.runClearLine snap (s.beginCommand snap)) :=
  congrArg Host.Outcome.next
    (runCommand_body .clearFaultLine _ s snap h (by simp [Row.accepts, hh.1, h2, h3]) (headerCheck_headed snap 9 4 hh rfl))

theorem exec_clearFaultProtection {s : State} {snap : BitVec 1024} (h : canBegin s snap) (hh : headed snap 9 4)
    (h1 : param snap 0 1 ≠ 1) (h2 : param snap 0 1 ≠ 2) :
    exec .clearFaultProtection s = .next (State.runClearProtection snap (s.beginCommand snap)) :=
  congrArg Host.Outcome.next
    (runCommand_body .clearFaultProtection _ s snap h (by simp [Row.accepts, hh.1, h1, h2]) (headerCheck_headed snap 9 4 hh rfl))

theorem exec_clearFaultZones_unknown {s : State} {snap : BitVec 1024} (h : canBegin s snap) (hh : headed snap 9 4)
    (hp : param snap 0 1 = 0 ∨ 3 < param snap 0 1) : exec .clearFaultZones s = .next (answered s snap [] (.badParam, 2)) := by
  have accepts : Row.accepts .clearFaultZones snap = true := by
    have h1 : param snap 0 1 ≠ 1 := by omega
    have h3 : param snap 0 1 ≠ 3 := by omega
    simp [Row.accepts, hh.1, h1, h3]
  rw [← answer_beginCommand]
  refine congrArg Host.Outcome.next
    ((runCommand_body .clearFaultZones _ s snap h accepts (headerCheck_headed snap 9 4 hh rfl)).trans (if_neg ?_))
  omega

theorem lineNo_val (l : LineNo) : lineNo l.val = some l := dif_pos l.isLt

/-- Settles O48 (`clearLine_eq`). -/
theorem lineFaultIsCleared : Obligations.LineFaultIsCleared := by
  refine fun s snap h hh => ⟨fun hp => ⟨?_, exec_clearFaultZones_unknown h hh hp, ?_⟩, fun hp hl => ?_, fun l hp hl => ?_⟩
  · rw [exec_clearFaultLine h hh (by omega) (by omega), ← answer_beginCommand]
    exact congrArg Host.Outcome.next (if_neg (by omega))
  · rw [exec_clearFaultProtection h hh (by omega) (by omega), ← answer_beginCommand]
    exact congrArg Host.Outcome.next (if_neg (by omega))
  · rw [exec_clearFaultLine h hh (by omega) (by omega), ← answer_beginCommand]
    refine congrArg Host.Outcome.next ((if_pos hp).trans ?_)
    rw [show lineNo (param snap 1 1) = none from dif_neg (by omega)]
  · rw [exec_clearFaultLine h hh (by omega) (by omega)]
    refine congrArg Host.Outcome.next ((if_pos hp).trans ?_)
    rw [hl, lineNo_val]
    dsimp only
    rw [clearLine_beginCommand, answer_beginCommand, clearLine_eq]

/-! ### CLEAR_FAULT for protection (R147) -/

/-- A state that took backlight and protection `p` with the event of the change, and nothing else of the power pieces. -/
def Settled (u b : State) (p : Protection) (code : Nat) : Prop :=
  b.protection = p ∧ b.lines = u.lines ∧ b.events = eventsAfter u.events u.ms .backlightState .none code
  ∧ flagsAdded u b (overrun u)

theorem setBacklight_settled {u v : State} {x : Backlight} (hx : v.protection.backlight ≠ x) (hl : v.lines = u.lines)
    (he : v.events = u.events) (hm : v.ms = u.ms) (ha : v.accrued = u.accrued) :
    Settled u (v.setBacklight x) { v.protection with backlight := x } (backlightCode x) := by
  obtain ⟨protection, events, flags⟩ := setBacklight_spec x v
  have same : overrun v = overrun u := by
    unfold overrun
    rw [he]
  rw [if_neg (Ne.symm hx)] at events flags
  rw [same] at flags
  exact ⟨protection, (outside_setBacklight x v .lines (by decide)).trans hl, by rw [events, he, hm],
    flagsAdded_congr_state flags ha.symm rfl⟩

/-- Protection after its shutdown history is emptied (R147). -/
abbrev emptied (s : State) : Protection := { s.protection with shutdownHistory := [] }

/-- The first row of R147. -/
theorem clearLatchedOff_spec (u : State) (hb : u.protection.backlight = .latchedOff) :
    let valid := u.tables.zoneMapState = .valid ∧ u.tables.lineSetupState = .valid ∧ u.tables.limitsState = .valid
    (u.protection.target = false → Settled u u.clearLatchedOff { emptied u with backlight := .off } 0)
    ∧ (u.protection.target = true → u.protection.thermal = .shutdown →
        Settled u u.clearLatchedOff { emptied u with backlight := .thermalOff } 4)
    ∧ (u.protection.target = true → u.protection.thermal ≠ .shutdown → valid →
        PowerUpBegun { u with protection := emptied u } u.clearLatchedOff)
    ∧ (u.protection.target = true → u.protection.thermal ≠ .shutdown → ¬valid →
        Settled u u.clearLatchedOff { emptied u with backlight := .off, target := false } 0) := by
  have tables : State.powerTablesValid { u with protection := emptied u } = true
      ↔ u.tables.zoneMapState = .valid ∧ u.tables.lineSetupState = .valid ∧ u.tables.limitsState = .valid := by
    simp [State.powerTablesValid, and_assoc]
  unfold State.clearLatchedOff
  dsimp only
  refine ⟨fun ht => ?_, fun ht hs => ?_, fun ht hs hv => ?_, fun ht hs hv => ?_⟩
  · rw [if_pos ht]
    exact setBacklight_settled (v := { u with protection := emptied u }) (by show u.protection.backlight ≠ _; rw [hb]; decide)
      rfl rfl rfl rfl
  · rw [if_neg (by rw [ht]; decide), if_pos hs]
    exact setBacklight_settled (v := { u with protection := emptied u }) (by show u.protection.backlight ≠ _; rw [hb]; decide)
      rfl rfl rfl rfl
  · rw [if_neg (by rw [ht]; decide), if_neg hs, State.powerUpOrOff, if_pos (tables.2 hv)]
    exact powerUpBegin_spec _ (by show u.protection.backlight ≠ _; rw [hb]; decide)
  · rw [if_neg (by rw [ht]; decide), if_neg hs, State.powerUpOrOff, if_neg fun e => hv (tables.1 e)]
    exact setBacklight_settled (v := State.setTarget false { u with protection := emptied u })
      (by show u.protection.backlight ≠ _; rw [hb]; decide) rfl rfl rfl rfl

theorem powerUpBegun_protection {a b : State} (h : PowerUpBegun a b) :
    b.protection = { a.protection with
                     backlight := b.protection.backlight
                     sequencer := b.protection.sequencer
                     stepTimer := b.protection.stepTimer } := by
  obtain ⟨first, none⟩ := h
  generalize ((List.finRange 16).filter fun m => decide (0 < a.driverCount m ∧ a.lines[m].state ≠ .locked)) = used at first none
  rcases used with _ | ⟨l, rest⟩
  · rw [(none rfl).1]
  · rw [(first l rest rfl).1]

/-- Leaving LATCHED_OFF touches neither the trip nor the supply (R147). -/
theorem clearLatchedOff_kept (u : State) (hb : u.protection.backlight = .latchedOff) :
    u.clearLatchedOff.protection.trip = u.protection.trip
    ∧ u.clearLatchedOff.protection.filterCount = u.protection.filterCount
    ∧ u.clearLatchedOff.protection.uvLatch = u.protection.uvLatch
    ∧ u.clearLatchedOff.protection.supply = u.protection.supply := by
  obtain ⟨off, hot, up, down⟩ := clearLatchedOff_spec u hb
  cases ht : u.protection.target
  · rw [(off ht).1]
    exact ⟨rfl, rfl, rfl, rfl⟩
  · by_cases hs : u.protection.thermal = .shutdown
    · rw [(hot ht hs).1]
      exact ⟨rfl, rfl, rfl, rfl⟩
    · by_cases hv : u.tables.zoneMapState = .valid ∧ u.tables.lineSetupState = .valid ∧ u.tables.limitsState = .valid
      · rw [powerUpBegun_protection (up ht hs hv)]
        exact ⟨rfl, rfl, rfl, rfl⟩
      · rw [(down ht hs hv).1]
        exact ⟨rfl, rfl, rfl, rfl⟩

/-- The second row of R147. -/
theorem releaseTrip_spec (b : State) :
    let u := if b.protection.trip.isSome = true then b.releaseTrip else b
    u.protection
        = { b.protection with
            trip := none, filterCount := if b.protection.trip = none then b.protection.filterCount else 0 }
    ∧ u.lines = b.lines
    ∧ u.events
        = (b.protection.trip.elim b.events fun q => eventsAfter b.events b.ms .ocReleased .none (releaseCode q.mode))
    ∧ flagsAdded b u (if b.protection.trip = none then [] else overrun b) := by
  rcases ht : b.protection.trip with _ | q
  · refine ⟨?_, rfl, rfl, flagsAdded_refl b⟩
    show b.protection = { b.protection with trip := none, filterCount := b.protection.filterCount }
    rw [← ht]
  · have released : b.releaseTrip
        = ({ b with protection := { b.protection with trip := none, filterCount := 0 } }).addEvent .ocReleased .none
            (releaseCode q.mode) := by
      unfold State.releaseTrip
      rw [ht]
    simp only [Option.isSome_some, if_true, if_neg (show ¬some q = none from nofun)]
    rw [released]
    exact ⟨addEvent_protection .., addEvent_lines .., rfl, flagsAdded_addEvent _ _ _ _⟩

/-- The state from which the later rows of R147 go on. -/
def afterLatched (s : State) : State := if s.protection.backlight = .latchedOff then s.clearLatchedOff else s

theorem afterLatched_kept (u : State) :
    (afterLatched u).protection.trip = u.protection.trip
    ∧ (afterLatched u).protection.filterCount = u.protection.filterCount
    ∧ (afterLatched u).protection.uvLatch = u.protection.uvLatch
    ∧ (afterLatched u).protection.supply = u.protection.supply := by
  unfold afterLatched
  by_cases hb : u.protection.backlight = .latchedOff
  · rw [if_pos hb]
    exact clearLatchedOff_kept u hb
  · rw [if_neg hb]
    exact ⟨rfl, rfl, rfl, rfl⟩

theorem outside_afterLatched (u : State) : Outside powerPieces u (afterLatched u) :=
  outside_ite (outside_clearLatchedOff u) (outside_refl _ u)

/-- The rows of R147 one after another. -/
theorem clearProtection_spec (u : State) :
    let b := afterLatched u
    let clears := u.protection.uvLatch = true ∧ u.protection.supply ≠ .uv
    let t := u.clearProtection.1
    t.protection
        = { b.protection with
            trip := none
            filterCount := if u.protection.trip = none then u.protection.filterCount else 0
            uvLatch := u.protection.uvLatch && !decide clears }
    ∧ t.lines = b.lines
    ∧ t.events = (u.protection.trip.elim b.events fun q => eventsAfter b.events u.ms .ocReleased .none (releaseCode q.mode))
    ∧ flagsAdded b t (if u.protection.trip = none then [] else overrun b)
    ∧ u.clearProtection.2
        = (if u.protection.backlight = .latchedOff then 1 else 0) + (if u.protection.trip = none then 0 else 2)
            + (if clears then 4 else 0) := by
  intro b clears t
  obtain ⟨trip, count, latch, supply⟩ := afterLatched_kept u
  obtain ⟨rp, rl, re, rf⟩ := releaseTrip_spec (afterLatched u)
  have ms : (afterLatched u).ms = u.ms := outside_afterLatched u .ms (by decide)
  rw [trip, count] at rp
  rw [trip, ms] at re
  rw [trip] at rf rl
  have first : (if (u.protection.backlight == .latchedOff) = true then u.clearLatchedOff else u) = b :=
    if_congr beq_iff_eq rfl rfl
  have cleared : (u.protection.uvLatch && u.protection.supply != .uv) = decide clears := by
    rw [Bool.decide_and, decide_not, Bool.decide_eq_true]
    rfl
  have run : t
      = (let v := if u.protection.trip.isSome = true then b.releaseTrip else b
         if decide clears = true then { v with protection := { v.protection with uvLatch := false } } else v) := by
    unfold t State.clearProtection
    dsimp only
    rw [first, cleared]
  have sum : u.clearProtection.2
      = (if u.protection.backlight = .latchedOff then 1 else 0) + (if u.protection.trip = none then 0 else 2)
          + (if clears then 4 else 0) := by
    unfold State.clearProtection
    dsimp only
    rw [cleared]
    simp only [beq_iff_eq, decide_eq_true_eq, Option.isSome_iff_ne_none, ne_eq, ite_not]
  generalize (if u.protection.trip.isSome = true then b.releaseTrip else b) = v at rp rl re rf run
  by_cases hc : clears
  · rw [run, if_pos (decide_eq_true hc)]
    refine ⟨?_, rl, re, flagsAdded_congr_state rf rfl rfl, sum⟩
    dsimp only
    rw [rp, decide_eq_true hc, Bool.not_true, Bool.and_false]
  · rw [run, if_neg fun h => hc (of_decide_eq_true h)]
    refine ⟨?_, rl, re, rf, sum⟩
    rw [rp, decide_eq_false hc, Bool.not_false, Bool.and_true, ← latch]

/-- Settles O50 (`clearLatchedOff_spec`, `clearProtection_spec`). -/
theorem protectionIsCleared : Obligations.ProtectionIsCleared := by
  intro s snap h hh hp
  dsimp only
  obtain ⟨tp, tl, te, tf, sum⟩ := clearProtection_spec (s.beginCommand snap)
  have frame := outside_clearProtection (s.beginCommand snap)
  have run : exec .clearFaultProtection s
      = .next ((s.beginCommand snap).clearProtection.1.answer [] (.done, (s.beginCommand snap).clearProtection.2)) := by
    rw [exec_clearFaultProtection h hh (by omega) (by omega)]
    exact congrArg Host.Outcome.next (if_pos hp)
  have trips : ∀ (o : Option Trip) (es : List Event),
      (o.elim es fun q => eventsAfter es s.ms .ocReleased .none (releaseCode q.mode))
        = match o with
          | some q => eventsAfter es s.ms .ocReleased .none (releaseCode q.mode)
          | none => es := fun o es => by cases o <;> rfl
  have all : Outside [.protection, .lines, .events, .accrued, .ring, .freeCount] s
      { (s.beginCommand snap).clearProtection.1 with
        ring := (answered s snap [] (.done, (s.beginCommand snap).clearProtection.2)).ring, freeCount := s.freeCount + 1 } :=
    outside_step (outside_ring_freeCount _ _ _) (by decide)
      (outside_step frame (by decide) (outside_mono (outside_begun s snap) (by decide)))
  rw [sum] at all
  rw [run, sum, answer_effects frame]
  generalize (s.beginCommand snap).clearProtection.1 = v at tp tl te tf all ⊢
  by_cases hb : s.protection.backlight = .latchedOff
  · have latched : afterLatched (s.beginCommand snap) = (s.beginCommand snap).clearLatchedOff := if_pos hb
    obtain ⟨off, hot, up, down⟩ := clearLatchedOff_spec (s.beginCommand snap) hb
    rw [latched] at tp tl te tf
    generalize (s.beginCommand snap).clearLatchedOff = b at off hot up down tp tl te tf
    exact ⟨b, _, rfl, fun hn => absurd hb hn, fun _ => off, fun _ => hot, fun _ => up, fun _ => down, tp, tl,
      te.trans (trips _ _), tf, rfl, all⟩
  · have kept : afterLatched (s.beginCommand snap) = s.beginCommand snap := if_neg hb
    rw [kept] at tp tl te tf
    exact ⟨s, _, rfl, fun _ => rfl, fun h => absurd h hb, fun h => absurd h hb, fun h => absurd h hb, fun h => absurd h hb,
      tp, tl, te.trans (trips _ _), tf, rfl, all⟩

/-! ### LOAD_TABLE (R159) -/

theorem exec_loadTable {s : State} {snap : BitVec 1024} (h : canBegin s snap) (hh : headed snap 6 12) :
    exec .loadTable s = .next (State.runLoadTable snap (s.beginCommand snap)) :=
  congrArg Host.Outcome.next
    (runCommand_body .loadTable _ s snap h (by simp [Row.accepts, hh.1]) (headerCheck_headed snap 6 12 hh rfl))

/-- Whether the count of a LOAD_TABLE runs past the end of its table. -/
abbrev loadClamps (s : State) (id : TableId) (snap : BitVec 1024) : Prop :=
  tableIsArray id = true ∧ s.tableEnd id < param snap 4 2 + param snap 6 2

theorem loadOf_eq (s : State) (id : TableId) (snap : BitVec 1024) :
    s.loadOf id snap
      = { table := id
          offset := param snap 4 2
          count := if loadClamps s id snap then s.tableEnd id - param snap 4 2 else param snap 6 2
          clamped := decide (loadClamps s id snap)
          source := BitVec.ofNat 32 (param snap 8 4)
          crc := BitVec.ofNat 16 (param snap 2 2)
          phase := .waiting } := by
  have clamps : (tableIsArray id && decide (s.tableEnd id < param snap 4 2 + param snap 6 2)) = decide (loadClamps s id snap) := by
    rw [Bool.decide_and, Bool.decide_eq_true]
  unfold State.loadOf
  dsimp only
  rw [clamps]
  simp only [decide_eq_true_eq]

/-- The checks of R159 for a table that the command names, in their order. -/
abbrev loadChecks (s : State) (id : TableId) (snap : BitVec 1024) : List (Prop × Answer) :=
  [((id = .zoneMap ∨ id = .lineSetup → s.protection.backlight = .off), (.state, 1)),
   ((tableIsArray id = false → param snap 4 2 = 0 ∧ param snap 6 2 = 1), (.badParam, 2)),
   ((tableIsArray id = true → 1 ≤ param snap 6 2), (.badParam, 3)),
   ((tableIsArray id = true → param snap 4 2 < s.tableEnd id), (.badParam, 4)),
   (param snap 8 4 % 32 = 0, (.badParam, 5)),
   (param snap 8 4 + (if loadClamps s id snap then s.tableEnd id - param snap 4 2 else param snap 6 2) * entrySize id ≤ 2 ^ 32,
     (.badParam, 6))]

/-- The model makes the checks of the table and no other. -/
theorem loadCheck_firstFailing (s : State) (id : TableId) (snap : BitVec 1024) :
    FirstFailing none (s.loadCheck id snap) (loadChecks s id snap) := by
  unfold State.loadCheck
  dsimp only
  refine .branch Classical.not_imp.symm fun _ => .branch Classical.not_imp.symm fun _ => .branch ?_ fun _ => ?_
  · rw [Classical.not_imp, Nat.not_le, Nat.lt_one_iff]
  · refine .branch ?_ fun _ => .branch Iff.rfl fun _ => .branch ?_ fun _ => rfl
    · rw [Classical.not_imp, Nat.not_lt]
    · rw [Nat.not_le, loadOf_eq]
      rfl

/-- Settles O51: the checks by `loadCheck_firstFailing`, the waiting load by `loadOf_eq`. -/
theorem loadIsAcceptedOrRefused : Obligations.LoadIsAcceptedOrRefused := by
  refine ⟨fun s snap id h hh ht hb => ?_, fun s snap h hh => ⟨fun ht => ?_, fun id ht => ?_⟩⟩
  · intro offset clamps count hr hs hc
    rw [exec_loadTable h hh]
    have passes : (s.beginCommand snap).loadCheck id snap = none := by
      refine (loadCheck_firstFailing (s.beginCommand snap) id snap).eq_rest ?_
      simp only [loadChecks, List.forall_mem_cons]
      refine ⟨hb, fun ha => ?_, fun ha => ?_, fun ha => ?_, hs, hc, List.forall_mem_nil _⟩
      · rwa [ha, if_neg (by decide)] at hr
      · rw [if_pos ha] at hr
        exact hr.1
      · rw [if_pos ha] at hr
        exact hr.2
    refine congrArg Host.Outcome.next ?_
    unfold State.runLoadTable
    rw [ht]
    dsimp only
    rw [passes, loadOf_eq]
    rfl
  · rw [exec_loadTable h hh, ← answer_beginCommand]
    refine congrArg Host.Outcome.next ?_
    unfold State.runLoadTable
    rw [ht]
  · intro offset count checks before p a after hc hq hn
    have fails : (s.beginCommand snap).loadCheck id snap = some a := by
      have first := loadCheck_firstFailing (s.beginCommand snap) id snap
      rw [show loadChecks (s.beginCommand snap) id snap = checks from rfl, hc] at first
      exact first.eq_some hq hn
    rw [exec_loadTable h hh, ← answer_beginCommand]
    refine congrArg Host.Outcome.next ?_
    unfold State.runLoadTable
    rw [ht]
    dsimp only
    rw [fails]

end Sys2Proof.Laws
end

section
/-! SUPPORT. Table loads: table states and contents, the fetch beat by beat, its end, and its failure at a downstream DOWN
(R160 to R164). -/

namespace Sys2Proof.Laws

-- Each proof may wait for an earlier one; run one after another they need no thread each.
set_option Elab.async false

open Sys2Proof Sys2Proof.Machine Sys2Proof.Safety

/-! ### Table states and contents -/

theorem stateOf_withState (t : Tables) (id j : TableId) (x : TableState) :
    (t.withState id x).stateOf j = if j = id then x else t.stateOf j := by
  cases id <;> cases j <;> rfl

/-- Two sets of tables hold the same contents. -/
structure SameContents (t u : Tables) : Prop where
  zoneMap : u.zoneMap = t.zoneMap
  calibration : u.calibration = t.calibration
  lineSetup : u.lineSetup = t.lineSetup
  setA : u.setA = t.setA
  setB : u.setB = t.setB
  limits : u.limits = t.limits

theorem sameContents_refl (t : Tables) : SameContents t t := ⟨rfl, rfl, rfl, rfl, rfl, rfl⟩

theorem withState_contents (t : Tables) (id : TableId) (x : TableState) : SameContents t (t.withState id x) := by
  cases id <;> exact ⟨rfl, rfl, rfl, rfl, rfl, rfl⟩

theorem setTableState_tables (id : TableId) (x : TableState) (s : State) :
    (s.setTableState id x).tables = s.tables.withState id x :=
  outside_settleCeiling _ _ .tables (by decide)

/-- A change of a table's state marks the RUNNING lines if it moves the ceiling (R145). -/
theorem setTableState_get (id : TableId) (x : TableState) (s : State) (m : LineNo) :
    (s.setTableState id x).lines[m]
      = if (s.setTableState id x).ceiling ≠ s.ceiling ∧ s.lines[m].state = .running then
          markedLine (s.driverCount m) s.lines[m]
        else s.lines[m] := by
  obtain ⟨u, hu, ht, hl, hp⟩ : ∃ u : State, s.setTableState id x = u.settleCeiling s.ceiling
      ∧ u.tables = s.tables.withState id x ∧ u.lines = s.lines ∧ u.protection = s.protection :=
    ⟨{ s with tables := s.tables.withState id x }, rfl, rfl, rfl, rfl⟩
  have frame := outside_settleCeiling s.ceiling u
  have ceiling : (u.settleCeiling s.ceiling).ceiling = u.ceiling :=
    ceiling_congr (frame .protection (by decide)) (frame .tables (by decide))
  have drivers : u.driverCount m = s.driverCount m := by
    unfold State.driverCount
    rw [ht, (withState_contents s.tables id x).lineSetup]
  rw [hu, settleCeiling_get, ceiling, drivers, hl]

/-! ### Ends of a load (R154, R162, R164) -/

/-- The ring after the answer of command `c` (R154). -/
def answeredRing (s : State) (c : Command) (a : Answer) : Ring :=
  { s.ring with
    executing :=
      some
        { c with
          offers := [statusWrite (s.controlBase + 128 * s.ring.index.val + 0x60) (statusWord a (sequenceOf c.snapshot)) s.freeCount]
          load := none } }

theorem answer_eq {u : State} {c : Command} (h : u.ring.executing = some c) (a : Answer) :
    u.answer [] a = { u with ring := answeredRing u c a, freeCount := u.freeCount + 1 } := by
  unfold State.answer
  rw [h]
  rfl

/-- The answer of `c` after operations that leave the ring, the straps and the numbering of free values alone. -/
theorem answer_after {ps : List Piece} {s u : State} {c : Command} (h : s.ring.executing = some c) (ho : Outside ps s u)
    (a : Answer) (hr : Piece.ring ∉ ps := by decide) (hc : Piece.cfg ∉ ps := by decide)
    (hf : Piece.freeCount ∉ ps := by decide) :
    u.answer [] a = { u with ring := answeredRing s c a, freeCount := s.freeCount + 1 } := by
  have ring : u.ring = s.ring := ho .ring hr
  have cfg : u.cfg = s.cfg := ho .cfg hc
  have count : u.freeCount = s.freeCount := ho .freeCount hf
  rw [answer_eq (by rw [ring]; exact h)]
  unfold answeredRing State.controlBase
  rw [ring, cfg, count]

/-- A load that fails (R162 to R164). -/
theorem failLoad_spec {s : State} {c : Command} (h : s.ring.executing = some c) (id : TableId) (a : Answer) :
    (s.failLoad id a).tables = s.tables.withState id .invalid ∧ (s.failLoad id a).ring = answeredRing s c a
    ∧ (s.failLoad id a).freeCount = s.freeCount + 1
    ∧ (s.failLoad id a).events = eventsAfter s.events s.ms .tableInvalid (.table id) (statusCode a.1)
    ∧ flagsAdded s (s.failLoad id a) (overrun s) := by
  have so := outside_setTableState id .invalid s
  have added := outside_addEvent .tableInvalid (.table id) (statusCode a.1) (s.setTableState id .invalid)
  have told : Outside [.tables, .lines, .events, .accrued] s
      ((s.setTableState id .invalid).addEvent .tableInvalid (.table id) (statusCode a.1)) :=
    outside_step added (by decide) (outside_mono so (by decide))
  have events : (s.setTableState id .invalid).events = s.events := so .events (by decide)
  have ms : (s.setTableState id .invalid).ms = s.ms := so .ms (by decide)
  have flags := flagsAdded_addEvent .tableInvalid (.table id) (statusCode a.1) (s.setTableState id .invalid)
  have same : overrun (s.setTableState id .invalid) = overrun s := by
    unfold overrun
    rw [events]
  rw [same] at flags
  unfold State.failLoad
  rw [answer_after h told]
  refine ⟨?_, rfl, rfl, ?_, flagsAdded_congr_state flags (so .accrued (by decide)).symm rfl⟩
  · exact (added .tables (by decide)).trans (setTableState_tables id .invalid s)
  · show ((s.setTableState id .invalid).addEvent _ _ _).events = _
    rw [events_addEvent, events, ms]

/-- A load that succeeds (R162). -/
theorem passLoad_spec {s : State} {c : Command} (h : s.ring.executing = some c) (l : Load) :
    (s.passLoad l).tables = s.tables.withState l.table .valid
    ∧ (s.passLoad l).ring = answeredRing s c (if l.clamped then .clamped else .done, l.count)
    ∧ (s.passLoad l).freeCount = s.freeCount + 1 ∧ (s.passLoad l).events = s.events := by
  have so := outside_setTableState l.table .valid s
  unfold State.passLoad
  rw [answer_after h so]
  exact ⟨setTableState_tables _ _ s, rfl, rfl, so .events (by decide)⟩

/-- Settles O7 (`failLoad_spec`). -/
theorem downstreamDownFailsTheFetch : Obligations.DownstreamDownFailsTheFetch := by
  intro s c l b crc kept hs he hc hp
  have fails : exec .downstreamLinkDown s
      = .next (State.failLoad l.table (.linkDown, l.entriesAfter b)
          { s with link := { s.link with downstream := .down, injected := [], waitCount := 0, tracking := [] } }) := by
    refine congrArg Host.Outcome.next ((whenLive_live hs _).trans ?_)
    unfold State.downstreamDown State.stallRing
    simp only [he, hc, hp]
  have linked := outside_link s { s.link with downstream := .down, injected := [], waitCount := 0, tracking := [] }
  generalize hu : ({ s with link := { s.link with downstream := .down, injected := [], waitCount := 0, tracking := [] } } : State) = u
    at fails linked
  have link : u.link = { s.link with downstream := .down, injected := [], waitCount := 0, tracking := [] } := by rw [← hu]
  have ring : answeredRing u c (.linkDown, l.entriesAfter b) = answeredRing s c (.linkDown, l.entriesAfter b) := by rw [← hu]; rfl
  have over' : overrun u = overrun s := by rw [← hu]; rfl
  obtain ⟨tables, answered, -, events, flags⟩ :=
    failLoad_spec (s := u) (c := c) (by rw [← hu]; exact he) l.table (.linkDown, l.entriesAfter b)
  have frame := outside_failLoad l.table (.linkDown, l.entriesAfter b) u
  refine ⟨_, fails, (frame .link (by decide)).trans link, ?_, fun id hn => ?_, ?_, ?_, answered.trans ring, ?_⟩
  · rw [tables, stateOf_withState, if_pos rfl]
  · rw [tables, stateOf_withState, if_neg hn, linked .tables (by decide)]
  · rw [events, linked .events (by decide), linked .ms (by decide)]
    rfl
  · rw [← over']
    exact flagsAdded_congr_state flags (linked .accrued (by decide)).symm rfl
  · exact outside_step frame (by decide) (outside_mono linked (by decide))

/-! ### The beginning of a load (R160, R161) -/

theorem load_eq {s : State} {c : Command} {l : Load} (he : s.ring.executing = some c) (hc : c.load = some l) : s.load = some l := by
  unfold State.load
  rw [he]
  exact hc

theorem setLoad_eq {s : State} {c : Command} (he : s.ring.executing = some c) (l : Load) (offers : List Injected) :
    s.setLoad l offers = { s with ring := { s.ring with executing := some { c with load := some l, offers := offers } } } := by
  unfold State.setLoad
  rw [he]

theorem exec_tableLoadBegin {s : State} {l : Load} (hs : live s) (hl : s.load = some l) (hp : l.phase = .waiting) :
    exec .tableLoadBegin s = .next (if s.loadCanBegin l = true then s.beginLoad l else s) := by
  refine congrArg Host.Outcome.next ((whenLive_live hs _).trans ?_)
  simp only [hl, hp]

theorem loadCanBegin_iff (s : State) (l : Load) :
    s.loadCanBegin l = true ↔ s.link.downstream = .up ∧ (l.table = .lineSetup ∨ s.engine.analysis = none) := by
  simp [State.loadCanBegin]

/-- The read that fetches beats `8 i` onward (R161). -/
def fetchRead (l : Load) (i : Nat) : Injected :=
  { request :=
      { requester := 63
        address := l.source + BitVec.ofNat 32 (256 * i)
        body := .read (min 8 (l.beats - 8 * i)) }
    purpose := .fetch l.table }

theorem fetchReads_eq (l : Load) : fetchReads l = (List.range ((l.beats + 7) / 8)).map (fetchRead l) := rfl

theorem fetchRead_beatCount (l : Load) (i : Nat) : (fetchRead l i).request.beatCount = min 8 (l.beats - 8 * i) := rfl

theorem beats_eq (l : Load) : l.beats = (l.count * entrySize l.table + 31) / 32 := rfl

theorem getElem?_fetchReads {l : Load} {i : Nat} {q : Injected} (h : (fetchReads l)[i]? = some q) :
    i < (l.beats + 7) / 8 ∧ q = fetchRead l i := by
  rw [fetchReads_eq, List.getElem?_map] at h
  by_cases hi : i < (l.beats + 7) / 8
  · rw [List.getElem?_range hi] at h
    cases h
    exact ⟨hi, rfl⟩
  · rw [List.getElem?_eq_none (by simpa using hi)] at h
    cases h

/-- Settles O52 (`settleCeiling_get`, `sum_eights`). -/
theorem loadBeginsItsFetch : Obligations.LoadBeginsItsFetch := by
  intro s c l hs he hc hp
  have run := exec_tableLoadBegin hs (load_eq he hc) hp
  refine ⟨fun h => ?_, fun hu hi _ => ?_⟩
  · rw [run, if_neg]
    rw [loadCanBegin_iff]
    rintro ⟨hu, hi⟩
    rcases h with h | ⟨ht, ha⟩
    · rw [h] at hu
      cases hu
    · exact hi.elim ht ha
  · have so := outside_setTableState l.table .loading s
    have tables := setTableState_tables l.table .loading s
    have ring : (s.setTableState l.table .loading).ring = s.ring := so .ring (by decide)
    rw [run, if_pos ((loadCanBegin_iff s l).2 ⟨hu, hi⟩)]
    unfold State.beginLoad
    rw [setLoad_eq (c := c) (by rw [ring]; exact he), ring]
    obtain ⟨c1, c2, c3, c4, c5, c6⟩ := withState_contents s.tables l.table .loading
    rw [← tables] at c1 c2 c3 c4 c5 c6
    refine ⟨_, fetchReads l, rfl, ?_, fun id hn => ?_, c1, c2, c3, c4, c5, c6, fun m => ?_, rfl, ?_, fun i q hq => ?_, ?_⟩
    · show (s.setTableState l.table .loading).tables.stateOf l.table = _
      rw [tables, stateOf_withState, if_pos rfl]
    · show (s.setTableState l.table .loading).tables.stateOf id = _
      rw [tables, stateOf_withState, if_neg hn]
    · exact setTableState_get l.table .loading s m
    · rw [fetchReads_eq, List.map_map]
      simp only [Function.comp_def, fetchRead_beatCount]
      rw [sum_eights, ← beats_eq]
      omega
    · obtain ⟨hi, rfl⟩ := getElem?_fetchReads hq
      have length : (fetchReads l).length = (l.beats + 7) / 8 := by rw [fetchReads_eq, List.length_map, List.length_range]
      refine ⟨rfl, rfl, rfl, rfl, fun hn => ?_, ?_, ?_⟩
      · rw [fetchRead_beatCount]
        omega
      · rw [fetchRead_beatCount]
        omega
      · rw [fetchRead_beatCount]
        omega
    · exact outside_step (outside_ring _ _) (by decide) (outside_mono so (by decide))

/-! ### The fetch (R161) -/

/-- Entries written one after another from `o`. -/
theorem foldl_set_get {α : Type} [DecidableEq α] {d : α} (f : Nat → α) (o m : Nat) (z : ZoneTable α d) (i : Nat) :
    ((List.range m).foldl (fun z j => z.set (o + j) (f j)) z).get i = if o ≤ i ∧ i < o + m then f (i - o) else z.get i := by
  induction m with
  | zero => exact (if_neg (by omega)).symm
  | succ m ih =>
    rw [List.range_succ, List.foldl_append, List.foldl_cons, List.foldl_nil, ZoneTable.get_set, ih]
    by_cases hi : i = o + m
    · subst hi
      rw [if_pos rfl, if_pos ⟨by omega, by omega⟩, Nat.add_sub_cancel_left]
    · rw [if_neg hi]
      exact if_congr (by omega) rfl rfl

/-- Line records written one after another from `o`, as far as there are lines. -/
theorem foldl_setLine_get (f : Nat → BitVec 128) (o k : Nat) (v : Vector (BitVec 128) 16) (m : LineNo) :
    ((List.range k).foldl (fun v j => if h : o + j < 16 then v.set (o + j) (f j) h else v) v)[m]
      = if o ≤ m.val ∧ m.val < o + k then f (m.val - o) else v[m] := by
  induction k with
  | zero => exact (if_neg (by omega)).symm
  | succ k ih =>
    rw [List.range_succ, List.foldl_append, List.foldl_cons, List.foldl_nil]
    generalize (List.range k).foldl (fun v j => if h : o + j < 16 then v.set (o + j) (f j) h else v) v = w at ih ⊢
    by_cases h : o + k < 16
    · rw [dif_pos h]
      show (w.set (o + k) (f k) h)[m.val] = _
      rw [Vector.getElem_set]
      by_cases hm : o + k = m.val
      · rw [if_pos hm, if_pos ⟨by omega, by omega⟩, ← hm, Nat.add_sub_cancel_left]
      · rw [if_neg hm]
        refine ih.trans (if_congr ?_ rfl rfl)
        omega
    · rw [dif_neg h]
      refine ih.trans (if_congr ?_ rfl rfl)
      omega

theorem putSlotBeat_byte (slot : BitVec 1024) (q : Nat) (d : Beat) {j : Nat} (hj : j < 128) :
    imageByte (putSlotBeat slot q d) j
      = if 32 * q ≤ j ∧ j < 32 * q + 32 then beatByte d (j - 32 * q) else imageByte slot j := by
  refine BitVec.eq_of_getLsbD_eq fun k hk => ?_
  unfold imageByte beatByte
  rw [BitVec.getLsbD_extractLsb', decide_eq_true hk, Bool.true_and, putSlotBeat_bit _ _ _ _ (by omega)]
  by_cases h : 32 * q ≤ j ∧ j < 32 * q + 32
  · rw [if_pos (by omega), if_pos h, BitVec.getLsbD_extractLsb', decide_eq_true hk, Bool.true_and,
      show 8 * j + k - 256 * q = 8 * (j - 32 * q) + k by omega]
  · rw [if_neg (by omega), if_neg h, BitVec.getLsbD_extractLsb', decide_eq_true hk, Bool.true_and]

section
variable (t : Tables) (l : Load) (b n : Nat) (kept data : Beat)

/-- A beat that belongs to another table leaves this one's contents. -/
theorem takeBeat_stateOf (id : TableId) : (t.takeBeat l b n kept data).stateOf id = t.stateOf id := by
  unfold Tables.takeBeat
  split
  case h_6 => split <;> rfl
  all_goals cases id <;> rfl

theorem takeBeat_zoneMap (z : Nat) :
    (t.takeBeat l b n kept data).zoneMap.get z
      = if l.table = .zoneMap ∧ l.offset + 8 * b ≤ z ∧ z < l.offset + 8 * b + n / 4 then
          data.extractLsb' (32 * (z - (l.offset + 8 * b))) 32
        else t.zoneMap.get z := by
  unfold Tables.takeBeat
  rcases ht : l.table with _ | _ | _ | _ | _ | _
  case zoneMap => simpa using foldl_set_get (fun j => data.extractLsb' (32 * j) 32) (l.offset + 8 * b) (n / 4) t.zoneMap z
  case limits => dsimp only; split <;> exact (if_neg nofun).symm
  all_goals exact (if_neg nofun).symm

theorem takeBeat_calibration (z : Nat) :
    (t.takeBeat l b n kept data).calibration.get z
      = if l.table = .calibration ∧ l.offset + 16 * b ≤ z ∧ z < l.offset + 16 * b + n / 2 then
          data.extractLsb' (16 * (z - (l.offset + 16 * b))) 16
        else t.calibration.get z := by
  unfold Tables.takeBeat
  rcases ht : l.table with _ | _ | _ | _ | _ | _
  case calibration =>
    simpa using foldl_set_get (fun j => data.extractLsb' (16 * j) 16) (l.offset + 16 * b) (n / 2) t.calibration z
  case limits => dsimp only; split <;> exact (if_neg nofun).symm
  all_goals exact (if_neg nofun).symm

theorem takeBeat_lineSetup (m : LineNo) :
    (t.takeBeat l b n kept data).lineSetup[m]
      = if l.table = .lineSetup ∧ l.offset + 2 * b ≤ m.val ∧ m.val < l.offset + 2 * b + n / 16 then
          data.extractLsb' (128 * (m.val - (l.offset + 2 * b))) 128
        else t.lineSetup[m] := by
  unfold Tables.takeBeat
  rcases ht : l.table with _ | _ | _ | _ | _ | _
  case lineSetup =>
    refine (foldl_setLine_get (fun j => data.extractLsb' (128 * j) 128) (l.offset + 2 * b) (n / 16) t.lineSetup m).trans ?_
    exact if_congr (and_iff_right rfl).symm rfl rfl
  case limits => dsimp only; split <;> exact (if_neg nofun).symm
  all_goals exact (if_neg nofun).symm

theorem takeBeat_setA {j : Nat} (hj : j < 128) :
    imageByte (t.takeBeat l b n kept data).setA j
      = if l.table = .setA ∧ 32 * b ≤ j ∧ j < 32 * b + 32 then beatByte data (j - 32 * b) else imageByte t.setA j := by
  unfold Tables.takeBeat
  rcases ht : l.table with _ | _ | _ | _ | _ | _
  case setA => exact (putSlotBeat_byte t.setA b data hj).trans (if_congr (and_iff_right rfl).symm rfl rfl)
  case limits => dsimp only; split <;> exact (if_neg nofun).symm
  all_goals exact (if_neg nofun).symm

theorem takeBeat_setB {j : Nat} (hj : j < 128) :
    imageByte (t.takeBeat l b n kept data).setB j
      = if l.table = .setB ∧ 32 * b ≤ j ∧ j < 32 * b + 32 then beatByte data (j - 32 * b) else imageByte t.setB j := by
  unfold Tables.takeBeat
  rcases ht : l.table with _ | _ | _ | _ | _ | _
  case setB => exact (putSlotBeat_byte t.setB b data hj).trans (if_congr (and_iff_right rfl).symm rfl rfl)
  case limits => dsimp only; split <;> exact (if_neg nofun).symm
  all_goals exact (if_neg nofun).symm

theorem takeBeat_limits :
    (t.takeBeat l b n kept data).limits = if l.table = .limits ∧ b = 1 then data ++ kept else t.limits := by
  unfold Tables.takeBeat
  rcases ht : l.table with _ | _ | _ | _ | _ | _
  case limits =>
    dsimp only
    split
    · next h => exact (if_pos ⟨rfl, h⟩).symm
    · next h => exact (if_neg fun e => h e.2).symm
  all_goals exact (if_neg nofun).symm

end

/-- A state whose tables hold what a beat has stored. -/
theorem beatStored {s t : State} {l : Load} {b : Nat} {kept data : Beat}
    (h : SameContents (s.tables.takeBeat l b (min 32 (l.count * entrySize l.table - 32 * b)) kept data) t.tables) :
    BeatStored s t l b kept data := by
  obtain ⟨c1, c2, c3, c4, c5, c6⟩ := h
  refine ⟨fun z => ?_, fun z => ?_, fun m => ?_, fun j hj => ⟨?_, ?_⟩, ?_⟩
  · rw [c1, takeBeat_zoneMap]
  · rw [c2, takeBeat_calibration]
  · rw [c3, takeBeat_lineSetup]
  · rw [c4, takeBeat_setA _ _ _ _ _ _ hj]
  · rw [c5, takeBeat_setB _ _ _ _ _ _ hj]
  · rw [c6, takeBeat_limits]

theorem countReturn_eq (e : Tracked) (rest : List Tracked) :
    countReturn e rest = if e.received + 1 < e.beatCount then { e with received := e.received + 1 } :: rest else rest := by
  unfold countReturn
  by_cases h : e.received + 1 < e.beatCount
  · rw [if_pos h, if_neg (by omega)]
  · rw [if_neg h, if_pos (by omega)]

/-- A return beat while the downstream link is UP (R12). -/
theorem exec_returnBeat {s : State} (hs : live s) (hd : s.link.downstream = .up) {e : Tracked} {rest : List Tracked}
    (ht : s.link.tracking = e :: rest) (data : Beat) :
    exec (.returnBeatReceived data) s = .next (s.routeReturn e rest data) := by
  refine congrArg Host.Outcome.next ((whenLive_live hs _).trans ?_)
  rw [hd, if_neg (by decide), ht]

/-- A return beat of the fetch in progress (R14, R161). -/
theorem routeReturn_fetch {s : State} {e : Tracked} {rest : List Tracked} {c : Command} {l : Load} {b : Nat} {crc : BitVec 16}
    {kept : Beat} (data : Beat) (ho : e.origin = .injected (.fetch l.table)) (he : s.ring.executing = some c)
    (hc : c.load = some l) (hp : l.phase = .fetching b crc kept) :
    s.routeReturn e rest data
      = State.takeFetchBeat c l b crc kept data { s with link := { s.link with tracking := countReturn e rest } } := by
  unfold State.routeReturn
  simp only [ho, State.fetchReturn, State.fetchBeat, he, hc, hp, if_true]

theorem last_beat_iff (l : Load) (b : Nat) : l.beats ≤ b + 1 ↔ l.count * entrySize l.table ≤ 32 * (b + 1) := by
  rw [beats_eq]
  omega

/-- What the end of a load leaves: table `id` in state `x`, contents as they were, the answer, and TABLE_INVALID unless the
table is VALID (R162, R163). -/
structure LoadEnded (s t : State) (c : Command) (id : TableId) (x : TableState) (a : Answer) : Prop where
  tables : t.tables = s.tables.withState id x
  ring : t.ring = answeredRing s c a
  freeCount : t.freeCount = s.freeCount + 1
  events : t.events = if x = .valid then s.events else eventsAfter s.events s.ms .tableInvalid (.table id) (statusCode a.1)

theorem loadEnded_fail {s : State} {c : Command} (h : s.ring.executing = some c) (id : TableId) (a : Answer) :
    LoadEnded s (s.failLoad id a) c id .invalid a := by
  obtain ⟨tables, ring, count, events, -⟩ := failLoad_spec h id a
  exact ⟨tables, ring, count, events⟩

theorem loadEnded_pass {s : State} {c : Command} (h : s.ring.executing = some c) (l : Load) :
    LoadEnded s (s.passLoad l) c l.table .valid (if l.clamped then .clamped else .done, l.count) := by
  obtain ⟨tables, ring, count, events⟩ := passLoad_spec h l
  exact ⟨tables, ring, count, events⟩

/-- The cases of the end of a load (R162, R163). -/
theorem endLoad_spec {s : State} {c : Command} (h : s.ring.executing = some c) (l : Load) (sum : BitVec 16) :
    (∃ x a, LoadEnded s (s.endLoad l sum) c l.table x a)
    ∧ (sum ≠ l.crc → LoadEnded s (s.endLoad l sum) c l.table .invalid (.crcFail, sum.toNat))
    ∧ (sum = l.crc → l.table ≠ .zoneMap →
        LoadEnded s (s.endLoad l sum) c l.table .valid (if l.clamped then .clamped else .done, l.count))
    ∧ (sum = l.crc → l.table = .zoneMap →
        (∀ z, z < s.grid.zones → entryFails s.tables.zoneMap z = true →
          (∀ y, y < z → entryFails s.tables.zoneMap y = false) →
          LoadEnded s (s.endLoad l sum) c l.table .invalid (.badTable, z))
        ∧ ((∀ z, z < s.grid.zones → entryFails s.tables.zoneMap z = false) →
            LoadEnded s (s.endLoad l sum) c l.table .valid (if l.clamped then .clamped else .done, l.count))) := by
  refine ⟨?_, fun hn => ?_, fun he hn => ?_, fun he hz => ⟨fun z hlt hf hl => ?_, fun hf => ?_⟩⟩
  all_goals unfold State.endLoad
  · split
    · split
      · split
        · exact ⟨_, _, loadEnded_fail h _ _⟩
        · exact ⟨_, _, loadEnded_pass h l⟩
      · exact ⟨_, _, loadEnded_pass h l⟩
    · exact ⟨_, _, loadEnded_fail h _ _⟩
  · rw [if_neg hn]
    exact loadEnded_fail h _ _
  · rw [if_pos he, if_neg hn]
    exact loadEnded_pass h l
  · have lowest : s.mapFailure = some z := by
      refine List.find?_range_eq_some.2 ⟨hf, List.mem_range.2 hlt, fun y hy => ?_⟩
      rw [hl y hy]
      rfl
    rw [if_pos he, if_pos hz, lowest]
    exact loadEnded_fail h _ _
  · have none : s.mapFailure = none := by
      refine List.find?_range_eq_none.2 fun y hy => ?_
      rw [hf y hy]
      rfl
    rw [if_pos he, if_pos hz, none]
    exact loadEnded_pass h l

/-- The state that a beat of a fetch leaves before the load goes on or ends: the beat is counted, its entries are stored. -/
def afterBeat (s : State) (e : Tracked) (rest : List Tracked) (l : Load) (b : Nat) (kept data : Beat) : State :=
  { s with
    link := { s.link with tracking := countReturn e rest }
    tables := s.tables.takeBeat l b (min 32 (l.bytes - 32 * b)) kept data }

theorem outside_afterBeat (s : State) (e : Tracked) (rest : List Tracked) (l : Load) (b : Nat) (kept data : Beat) :
    Outside [.link, .tables] s (afterBeat s e rest l b kept data) :=
  outside_step (outside_tables { s with link := { s.link with tracking := countReturn e rest } } _) (by decide)
    (outside_mono (outside_link s _) (by decide))

theorem takeFetchBeat_eq (s : State) (e : Tracked) (rest : List Tracked) (c : Command) (l : Load) (b : Nat) (crc : BitVec 16)
    (kept data : Beat) :
    State.takeFetchBeat c l b crc kept data { s with link := { s.link with tracking := countReturn e rest } }
      = if l.count * entrySize l.table ≤ 32 * (b + 1) then
          (afterBeat s e rest l b kept data).endLoad l (crc16Bytes crc (beatBytes data (min 32 (l.bytes - 32 * b))))
        else
          (afterBeat s e rest l b kept data).setLoad
            { l with phase := .fetching (b + 1) (crc16Bytes crc (beatBytes data (min 32 (l.bytes - 32 * b)))) data }
            c.offers := by
  unfold State.takeFetchBeat
  dsimp only
  exact if_congr (last_beat_iff l b) rfl rfl

/-- Settles O53: the beat by `beatStored`, the end by `endLoad_spec`. -/
theorem fetchFillsTheTable : Obligations.FetchFillsTheTable := by
  refine ⟨fun s e rest c l b crc kept data hs hd ht ho he hc hp hb => ?_, fun s e rest c l b crc kept data hs hd ht ho he hc hp hb => ?_⟩
  · have size : min 32 (l.bytes - 32 * b) = 32 := by
      unfold Load.bytes
      omega
    rw [exec_returnBeat hs hd ht, routeReturn_fetch data ho he hc hp, takeFetchBeat_eq, if_neg (by omega),
      setLoad_eq (s := afterBeat s e rest l b kept data) (c := c) he, size]
    refine ⟨_, rfl, ?_, rfl, beatStored (sameContents_refl _), fun id => takeBeat_stateOf _ _ _ _ _ _ _, ?_⟩
    · rw [← countReturn_eq]
      rfl
    · exact outside_step (outside_ring _ _) (by decide) (outside_mono (outside_afterBeat s e rest l b kept data) (by decide))
  · have size : min 32 (l.bytes - 32 * b) = l.count * entrySize l.table - 32 * b := by
      unfold Load.bytes
      have beats : l.count * entrySize l.table ≤ 32 * b + 32 := by omega
      omega
    intro sum ends
    have run := exec_returnBeat hs hd ht data
    rw [routeReturn_fetch data ho he hc hp, takeFetchBeat_eq, if_pos hb, size] at run
    have stored : SameContents (s.tables.takeBeat l b (min 32 (l.count * entrySize l.table - 32 * b)) kept data)
        (afterBeat s e rest l b kept data).tables := sameContents_refl _
    have kept' : Outside [.link, .tables] s (afterBeat s e rest l b kept data) :=
      outside_afterBeat s e rest l b kept data
    have link : (afterBeat s e rest l b kept data).link = { s.link with tracking := countReturn e rest } := rfl
    have states : ∀ id, (afterBeat s e rest l b kept data).tables.stateOf id = s.tables.stateOf id :=
      fun id => takeBeat_stateOf _ _ _ _ _ _ _
    have answered : ∀ a, answeredRing (afterBeat s e rest l b kept data) c a = answeredRing s c a := fun _ => rfl
    have executing : (afterBeat s e rest l b kept data).ring.executing = some c := he
    generalize afterBeat s e rest l b kept data = u at *
    have frame := outside_endLoad l sum u
    obtain ⟨⟨x, a, some⟩, wrong, right, map⟩ := endLoad_spec executing l sum
    have close : ∀ {x a}, LoadEnded u (u.endLoad l sum) c l.table x a → ends (u.endLoad l sum) x a := by
      rintro x a ⟨tables, ring, -, events⟩
      refine ⟨?_, ring.trans (answered a), ?_⟩
      · rw [tables, stateOf_withState, if_pos rfl]
      · rw [events, kept' .events (by decide), kept' .ms (by decide)]
    have same : SameContents u.tables (u.endLoad l sum).tables := by
      rw [some.tables]
      exact withState_contents _ _ _
    obtain ⟨c1, c2, c3, c4, c5, c6⟩ := same
    refine ⟨_, run, ?_, ?_, beatStored ?_, fun id hn => ?_, fun hne => close (wrong hne), fun h hn => close (right h hn),
      fun h hz => ?_, ?_⟩
    · exact some.freeCount.trans (congrArg (· + 1) (kept' .freeCount (by decide)))
    · rw [frame .link (by decide), link, countReturn_eq]
    · obtain ⟨d1, d2, d3, d4, d5, d6⟩ := stored
      exact ⟨c1.trans d1, c2.trans d2, c3.trans d3, c4.trans d4, c5.trans d5, c6.trans d6⟩
    · rw [some.tables, stateOf_withState, if_neg hn, states]
    · obtain ⟨failing, passing⟩ := map h hz
      have grid : u.grid = s.grid := kept' .grid (by decide)
      rw [c1, ← grid]
      exact ⟨fun z hlt hf hl => close (failing z hlt hf hl), fun hf => close (passing hf)⟩
    · exact outside_step frame (by decide) (outside_mono kept' (by decide))

end Sys2Proof.Laws
end

section
/-! SUPPORT. Scans and the analysis engine: what a scan start, a scan read, a late join and fallback leave (chapter 5), and the
start and completion of an analysis (R37, R38, R54). -/

namespace Sys2Proof.Laws

-- Each proof may wait for an earlier one; run one after another they need no thread each.
set_option Elab.async false

open Sys2Proof Sys2Proof.Machine Sys2Proof.Safety

/-! ### Steps of a scan start (R84) -/

/-- A piece that is as it was need not be named. -/
theorem outside_drop {p : Piece} {ps : List Piece} {s t : State} (h : Outside (p :: ps) s t) (k : Keeps s t p) :
    Outside ps s t := fun q hq => by
  by_cases e : q = p
  · rw [e]
    exact k
  · exact h q fun hm => (List.mem_cons.1 hm).elim e hq

/-- `DutiesMarked` speaks of lines and of the map of zones to channels only. -/
theorem dutiesMarked_congr_state {s t s' t' : State} {p : Nat → Prop} (h : DutiesMarked s t p) (hs : s'.lines = s.lines)
    (ht : t'.lines = t.lines) (hm : s'.tables = s.tables) : DutiesMarked s' t' p := by
  have channel : ∀ z, s'.zoneChannel z = s.zoneChannel z := fun z => by
    unfold State.zoneChannel
    rw [hm]
  intro l
  have h := h l
  simp only [hs, ht, channel]
  exact h

/-- The event queue after FALLBACK, if it was in force, has been left for window `w` (R93). -/
def fallbackLeft (s : State) (w : WindowNo) (tag : Nat) : List Event :=
  match s.scan.fallback with
  | .normal => s.events
  | .fallback => eventsAfter s.events s.ms .fallbackExit (.window w) tag

theorem fallbackLeft_congr {s u : State} (hf : u.scan.fallback = s.scan.fallback) (he : u.events = s.events)
    (hm : u.ms = s.ms) (w : WindowNo) (tag : Nat) : fallbackLeft u w tag = fallbackLeft s w tag := by
  unfold fallbackLeft
  rw [hf, he, hm]

theorem afterRelease_congr {s u : State} (hp : u.protection = s.protection) (hm : u.ms = s.ms) (es : List Event) :
    afterRelease u es = afterRelease s es := by
  unfold afterRelease
  rw [hp, hm]

theorem leaveFallback_spec (w : WindowNo) (k : SlotNo) (s : State) :
    (s.leaveFallback w k).scan = { s.scan with fallback := .normal }
    ∧ (s.leaveFallback w k).events = fallbackLeft s w s.results[k].tag.toNat
    ∧ ∀ f, f ≠ .eventOverrun → (s.leaveFallback w k).flag f = s.flag f := by
  rcases hf : s.scan.fallback with _ | _
  · have stays : s.leaveFallback w k = s := by
      unfold State.leaveFallback
      rw [hf]
    have events : fallbackLeft s w s.results[k].tag.toNat = s.events := by
      unfold fallbackLeft
      rw [hf]
    rw [stays, events, ← hf]
    exact ⟨rfl, rfl, fun f _ => rfl⟩
  · have leaves : s.leaveFallback w k
        = State.addEvent .fallbackExit (.window w) s.results[k].tag.toNat
            { s with scan := { s.scan with fallback := .normal } } := by
      unfold State.leaveFallback
      rw [hf]
    have events : fallbackLeft s w s.results[k].tag.toNat
        = eventsAfter s.events s.ms .fallbackExit (.window w) s.results[k].tag.toNat := by
      unfold fallbackLeft
      rw [hf]
    rw [leaves, events]
    refine ⟨outside_addEvent _ _ _ _ .scan (by decide), rfl, fun f hn => ?_⟩
    rw [flag_addEvent, decide_eq_false fun e => hn (mem_overrun.1 e).2, Bool.or_false]
    rfl

/-- What a commit of the rows passed leaves, in a scan that has a result (R84, R88, R93). -/
structure Committed (s t : State) (w : WindowNo) (k : SlotNo) : Prop where
  scan : t.scan = { s.scan with committed := s.scan.passed, fallback := .normal }
  drive : ∀ z, t.drive.get z = if z < s.scan.passed * s.grid.columns then s.results[k].entry z else s.drive.get z
  marked : DutiesMarked s t fun z => z < s.scan.passed * s.grid.columns ∧ (s.drive.get z).duty ≠ s.results[k].duty.get z
  events : t.events = fallbackLeft s w s.results[k].tag.toNat
  flags : ∀ f, f ≠ .eventOverrun → t.flag f = s.flag f

theorem commitOrHold_committed (w : WindowNo) {k : SlotNo} {s : State} (h : s.scan.result = some k) :
    Committed s (s.commitOrHold w) w k := by
  have rows := outside_commitRows k 0 s.scan.passed s
  obtain ⟨scan, events, flags⟩ := leaveFallback_spec w k
    { s.commitRows k 0 s.scan.passed with
      scan := { (s.commitRows k 0 s.scan.passed).scan with committed := s.scan.passed } }
  have left := outside_leaveFallback w k
    { s.commitRows k 0 s.scan.passed with
      scan := { (s.commitRows k 0 s.scan.passed).scan with committed := s.scan.passed } }
  have commit : s.commitOrHold w
      = State.leaveFallback w k
          { s.commitRows k 0 s.scan.passed with
            scan := { (s.commitRows k 0 s.scan.passed).scan with committed := s.scan.passed } } := by
    unfold State.commitOrHold
    rw [h]
  rw [← commit] at scan events flags left
  refine ⟨?_, fun z => ?_, ?_, ?_, fun f hf => (flags f hf).trans ?_⟩
  · rw [scan]
    dsimp only
    rw [rows .scan (by decide)]
  · rw [left .drive (by decide)]
    dsimp only
    rw [commitRows_get]
    exact if_congr (by omega) rfl rfl
  · refine dutiesMarked_congr_state (dutiesMarked_congr (commitRows_marked k 0 s.scan.passed s) fun z => ?_) rfl
      (left .lines (by decide)) rfl
    rw [Nat.zero_mul]
    exact and_congr_left fun _ => and_iff_right (Nat.zero_le z)
  · rw [events]
    unfold fallbackLeft
    dsimp only
    rw [rows .scan (by decide), rows .events (by decide), rows .ms (by decide), rows .results (by decide)]
  · unfold State.flag
    dsimp only
    rw [rows .accrued (by decide)]

/-- A trip of mode NEXT_SCAN is released by the start of a scan (R143). -/
theorem releaseTripOf_nextScan (s : State) :
    (s.releaseTripOf .nextScan).protection = afterScanStart s.protection
    ∧ (s.releaseTripOf .nextScan).events = afterRelease s s.events
    ∧ flagsAdded s (s.releaseTripOf .nextScan)
        (if s.protection.trip.map Trip.mode = some .nextScan then overrun s else []) := by
  unfold State.releaseTripOf afterScanStart afterRelease
  rcases ht : s.protection.trip with _ | q
  · exact ⟨rfl, rfl, flagsAdded_refl s⟩
  · by_cases hm : q.mode = .nextScan
    · have released : s.releaseTrip
          = State.addEvent .ocReleased .none 1
              { s with protection := { s.protection with trip := none, filterCount := 0 } } := by
        unfold State.releaseTrip
        simp only [ht, hm]
        rfl
      rw [Option.map_some, hm, if_pos rfl]
      dsimp only
      rw [if_pos hm, if_pos hm, if_pos hm, released]
      exact ⟨addEvent_protection _ _ _ _, rfl, flagsAdded_addEvent _ _ _ _⟩
    · rw [Option.map_some, if_neg fun e => hm (Option.some.inj e)]
      dsimp only
      rw [if_neg hm, if_neg hm, if_neg hm]
      exact ⟨rfl, rfl, flagsAdded_refl s⟩

/-- The state in which a scan start of window `w` at line `y` commits or holds: the request has joined the forward queue, and
the old scan is flushed and replaced (R84). -/
structure Replaced (s u : State) (x : LinkPath) (w : WindowNo) (y : Nat) : Prop where
  link : u.link = x
  scan : u.scan
    = { s.scan with
        pointer := some w, result := s.buffers[w].state.result, progress := y,
        passed := rowsPassed s.grid s.windows[w].height y, committed := 0 }
  buffers : u.buffers = s.buffers.set w { s.buffers[w] with state := s.buffers[w].state.onScanStart }
  drive : ∀ z, u.drive.get z = afterFlush s z
  marked : DutiesMarked s u fun z => (afterFlush s z).duty ≠ (s.drive.get z).duty
  outside : Outside [.link, .buffers, .scan, .drive, .lines] s u

theorem replaced_received (s : State) (x : LinkPath) (w : WindowNo) (y : Nat) :
    Replaced s (State.replaceScan w y (State.flushScan { s with link := x })) x w y := by
  have link := outside_link s x
  have flush : Outside [.link, .drive, .lines] s (State.flushScan { s with link := x }) :=
    outside_step (outside_flushScan _) (by decide) (outside_mono link (by decide))
  have replace := outside_replaceScan w y (State.flushScan { s with link := x })
  refine ⟨outside_flushScan { s with link := x } .link (by decide), ?_, ?_, flushScan_get { s with link := x },
    dutiesMarked_congr_state (flushScan_marked { s with link := x }) rfl rfl rfl,
    outside_step replace (by decide) (outside_mono flush (by decide))⟩
  all_goals generalize State.flushScan { s with link := x } = v at flush
  · show ({ v.scan with
        pointer := some w, result := v.buffers[w].state.result, progress := y,
        passed := rowsPassed v.grid v.windows[w].height y, committed := 0 } : ScanTracker) = _
    rw [flush .scan (by decide), flush .buffers (by decide), flush .grid (by decide), flush .windows (by decide)]
  · show v.buffers.set w { v.buffers[w] with state := v.buffers[w].state.onScanStart } = _
    rw [flush .buffers (by decide)]

/-- What the last two steps of a scan start leave: the supervision timer runs, and a NEXT_SCAN trip is released (R84, R143). -/
structure Restarted (s t : State) : Prop where
  scan : t.scan = { s.scan with supervision := .running 0 }
  protection : t.protection = afterScanStart s.protection
  events : t.events = afterRelease s s.events
  flags : flagsAdded s t (if s.protection.trip.map Trip.mode = some .nextScan then overrun s else [])
  outside : Outside [.scan, .protection, .events, .accrued] s t

theorem restarted (s : State) : Restarted s (s.restartSupervision.releaseTripOf .nextScan) := by
  obtain ⟨protection, events, flags⟩ := releaseTripOf_nextScan s.restartSupervision
  have frame := outside_releaseTripOf .nextScan s.restartSupervision
  exact ⟨frame .scan (by decide), protection, events, flagsAdded_congr_state flags rfl rfl,
    outside_step frame (by decide) (outside_mono (outside_restartSupervision s) (by decide))⟩

theorem isScanStart_iff (s : State) (w : WindowNo) (y : Nat) :
    s.isScanStart w y = true ↔
      y < s.windows[w].height / s.grid.rows
        ∧ (s.scan.pointer ≠ some w ∨ (s.scan.passed = s.grid.rows ∧ y < s.scan.progress)) := by
  simp [State.isScanStart, State.inRowZero, State.scanComplete, extentStart]

theorem onScanStart_of_result {x : BufferState} {k : SlotNo} (h : x.result = some k) : x.onScanStart = .shown k := by
  cases x <;> simp_all [BufferState.result, BufferState.onScanStart]

theorem onScanStart_of_none {x : BufferState} (h : x.result = none) : x.onScanStart = x := by
  cases x <;> simp_all [BufferState.result, BufferState.onScanStart]

/-! ### Reads received (R7, R83) -/

/-- The reception of a READ of one beat hands on the classification of that beat. -/
theorem exec_read_one {s : State} {r : Request} (hr : received s r) (hb : r.body = .read 1) :
    exec (.requestReceived r) s
      = .next (State.handRead (s.readClass r.requester r.address.toNat) { s with link := joined s r }) := by
  rw [exec_received hr]
  refine congrArg Host.Outcome.next ?_
  have classes : s.classesOf r = [s.readClass r.requester r.address.toNat] := by
    unfold State.classesOf
    rw [hb, ← beatAddress_zero r]
    rfl
  unfold State.receive
  rw [hb, classes, enqueue_eq]
  rfl

/-- The read classification of an address that lies in a window (R5). -/
structure InWindow (s : State) (c : ReadClass) (id : BitVec 6) (w : WindowNo) (y : Nat) : Prop where
  window : c.window = some w
  line : c.line = y
  scan : c.scanMatch = filterPasses id s.windows[w].scanMatch s.windows[w].scanMask

theorem readClass_window {s : State} {id : BitVec 6} {a : Nat} {w : WindowNo} {y x0 n : Nat}
    (h : s.locate a = .window w y x0 n) : InWindow s (s.readClass id a) id w y := by
  unfold State.readClass
  rw [h]
  exact ⟨rfl, rfl, rfl⟩

theorem readClass_elsewhere {s : State} {a : Nat} (id : BitVec 6)
    (h : (∃ o, s.locate a = .control o) ∨ s.locate a = .unclassified) : s.readClass id a = noClass := by
  unfold State.readClass
  rcases h with ⟨o, h⟩ | h <;> rw [h]

/-- The reception of a READ of one beat that lies in a window. -/
theorem exec_read_window {s : State} {r : Request} {w : WindowNo} {y x0 n : Nat} (hr : received s r) (hb : r.body = .read 1)
    (hp : s.locate r.address.toNat = .window w y x0 n) :
    exec (.requestReceived r) s
      = .next
          (if filterPasses r.requester s.windows[w].scanMatch s.windows[w].scanMask = true then
            State.scanBeat w y { s with link := joined s r }
          else { s with link := joined s r }) := by
  obtain ⟨window, line, scan⟩ := readClass_window (id := r.requester) hp
  rw [exec_read_one hr hb, State.handRead, window, line, scan]

/-- A scan read whose beat starts a scan, on the state in which its request has joined the forward queue. -/
theorem exec_scanStart {s : State} {r : Request} {w : WindowNo} {y x0 n : Nat} (h : ScanRead s r w y x0 n)
    (hy : y < s.windows[w].height / s.grid.rows)
    (hn : s.scan.pointer ≠ some w ∨ (s.scan.passed = s.grid.rows ∧ y < s.scan.progress)) :
    exec (.requestReceived r) s = .next (State.scanStart w y { s with link := joined s r }) := by
  rw [exec_read_window h.received h.body h.place, if_pos h.scan, State.scanBeat,
    if_pos ((isScanStart_iff { s with link := joined s r } w y).2 ⟨hy, hn⟩)]

/-- Settles O20: the steps of R84 one after another (`replaced_flushed`, `commitOrHold_committed`, `restarted`). -/
theorem scanStartsWithAResult : Obligations.ScanStartsWithAResult := by
  intro s r w y x0 n k h hk hy hn passed
  have run := exec_scanStart h hy hn
  unfold State.scanStart at run
  have rep := replaced_received s (joined s r) w y
  generalize State.replaceScan w y (State.flushScan { s with link := joined s r }) = u at run rep
  have result : u.scan.result = some k := by rw [rep.scan, hk]
  have com := commitOrHold_committed w result
  have frame := outside_commitOrHold w u
  generalize u.commitOrHold w = v at run com frame
  have res := restarted v
  generalize v.restartSupervision.releaseTripOf .nextScan = t at run res
  have rows : u.scan.passed * u.grid.columns = passed * s.grid.columns := by
    rw [rep.scan, rep.outside .grid (by decide)]
    rfl
  have results : u.results = s.results := rep.outside .results (by decide)
  have same : v.protection = s.protection :=
    (frame .protection (by decide)).trans (rep.outside .protection (by decide))
  have ms : v.ms = s.ms := (frame .ms (by decide)).trans (rep.outside .ms (by decide))
  refine ⟨t, run, ?_, ?_, ?_, fun z => ?_, ?_, ?_, ?_, fun f hf => ?_, ?_⟩
  · rw [res.outside .link (by decide), frame .link (by decide), rep.link]
  · rw [res.scan, com.scan, rep.scan, hk]
    rfl
  · rw [res.outside .buffers (by decide), frame .buffers (by decide), rep.buffers, onScanStart_of_result hk]
  · rw [res.outside .drive (by decide), com.drive, rows, results, rep.drive]
    rfl
  · refine dutiesMarked_congr_state (t := v) (dutiesMarked_congr (dutiesMarked_trans rep.marked com.marked fun z => ?_) fun z => ?_)
      rfl (res.outside .lines (by decide)) rfl
    · unfold State.zoneChannel
      rw [rep.outside .tables (by decide)]
    · rw [rows, results, rep.drive]
      exact or_congr_right (and_congr_right fun _ => ne_comm)
  · rw [res.protection, same]
  · have left : v.events = fallbackLeft s w s.results[k].tag.toNat := by
      rw [com.events, results]
      exact fallbackLeft_congr (by rw [rep.scan]) (rep.outside .events (by decide)) (rep.outside .ms (by decide)) w _
    rw [res.events, afterRelease_congr same ms]
    exact congrArg (afterRelease s) left
  · have released : f ∉ (if v.protection.trip.map Trip.mode = some .nextScan then overrun v else []) := fun e => by
      split at e
      · exact hf (mem_overrun.1 e).2
      · cases e
    rw [res.flags f, decide_eq_false released, Bool.or_false, com.flags f hf]
    unfold State.flag
    rw [rep.outside .accrued (by decide)]
  · exact outside_step res.outside (by decide)
      (outside_step frame (by decide) (outside_mono rep.outside (by decide)))

/-- A scan start without a result holds (R85). -/
theorem commitOrHold_held (w : WindowNo) {s : State} (h : s.scan.result = none) :
    s.commitOrHold w = (s.setFlag .hold).setFlagIf s.buffers[w].state.resultComing .late := by
  unfold State.commitOrHold
  rw [h]

/-- The flags of a held scan of a buffer in state `x` (R85). -/
theorem mem_heldFlags (x : BufferState) (f : Flag) :
    f ∈ [Flag.hold] ++ (if x.resultComing then [.late] else [])
      ↔ f ∈ (match x with
            | .queued _ => [.hold, .late]
            | .analysing _ => [.hold, .late]
            | _ => [.hold] : List Flag) := by
  cases x <;> rfl

/-- Settles O21. -/
theorem scanHoldsWithoutAResult : Obligations.ScanHoldsWithoutAResult := by
  intro s r w y x0 n h hk hy hn
  have run := exec_scanStart h hy hn
  unfold State.scanStart at run
  have rep := replaced_received s (joined s r) w y
  generalize State.replaceScan w y (State.flushScan { s with link := joined s r }) = u at run rep
  have result : u.scan.result = none := by rw [rep.scan, hk]
  have buffers : u.buffers = s.buffers := by
    rw [rep.buffers, onScanStart_of_none hk]
    exact Vector.set_getElem_self w.isLt
  rw [commitOrHold_held w result, buffers] at run
  have held : flagsAdded u ((u.setFlag .hold).setFlagIf s.buffers[w].state.resultComing .late)
      ([.hold] ++ if s.buffers[w].state.resultComing then [.late] else []) :=
    flagsAdded_trans (flagsAdded_setFlag .hold u) (flagsAdded_setFlagIf _ .late _)
  have frame : Outside [.accrued] u ((u.setFlag .hold).setFlagIf s.buffers[w].state.resultComing .late) :=
    outside_step (outside_setFlagIf _ .late _) (by decide) (outside_setFlag .hold u)
  generalize (u.setFlag .hold).setFlagIf s.buffers[w].state.resultComing .late = v at run held frame
  have res := restarted v
  generalize v.restartSupervision.releaseTripOf .nextScan = t at run res
  have whole : Outside (.buffers :: [.link, .drive, .scan, .lines, .protection, .events, .accrued]) s t :=
    outside_step res.outside (by decide) (outside_step frame (by decide) (outside_mono rep.outside (by decide)))
  have events : v.events = s.events := (frame .events (by decide)).trans (rep.outside .events (by decide))
  have same : v.protection = s.protection :=
    (frame .protection (by decide)).trans (rep.outside .protection (by decide))
  have ms : v.ms = s.ms := (frame .ms (by decide)).trans (rep.outside .ms (by decide))
  refine ⟨t, run, ?_, ?_, fun z => ?_, ?_, ?_, ?_, ?_, outside_drop whole ?_⟩
  · rw [res.outside .link (by decide), frame .link (by decide), rep.link]
  · rw [res.scan, frame .scan (by decide), rep.scan, hk]
    rfl
  · rw [res.outside .drive (by decide), frame .drive (by decide), rep.drive]
  · exact dutiesMarked_congr_state rep.marked rfl
      ((res.outside .lines (by decide)).trans (frame .lines (by decide))) rfl
  · rw [res.protection, same]
  · rw [res.events, events, afterRelease_congr same ms]
  · have start := flagsAdded_of_outside rep.outside
    have total := flagsAdded_trans start (flagsAdded_trans held res.flags)
    have full : overrun v = overrun s := by
      unfold overrun
      rw [events]
    rw [List.nil_append, same, full] at total
    exact flagsAdded_congr total fun f =>
      List.mem_append.trans ((or_congr_left (mem_heldFlags _ f)).trans List.mem_append.symm)
  · show t.buffers = s.buffers
    rw [res.outside .buffers (by decide), frame .buffers (by decide), buffers]

/-- What an advance of the scan on window `w` to line `y` leaves (R83, R86). -/
structure Advanced (s t : State) (progress passed : Nat) : Prop where
  scan : t.scan
    = { s.scan with
        progress := progress, passed := passed, committed := if s.scan.result = none then s.scan.committed else passed }
  drive : ∀ k, s.scan.result = some k → ∀ z,
    t.drive.get z
      = if s.scan.committed * s.grid.columns ≤ z ∧ z < passed * s.grid.columns then s.results[k].entry z else s.drive.get z
  marked : ∀ k, s.scan.result = some k →
    DutiesMarked s t fun z =>
      (s.scan.committed * s.grid.columns ≤ z ∧ z < passed * s.grid.columns) ∧ (s.drive.get z).duty ≠ s.results[k].duty.get z
  held : s.scan.result = none → Outside [.scan] s t

theorem advanced (w : WindowNo) (y : Nat) (s : State) :
    Advanced s (s.advance w y) (max s.scan.progress y)
      (rowsPassed s.grid s.windows[w].height (max s.scan.progress y)) := by
  unfold State.advance
  dsimp only
  rcases hk : s.scan.result with _ | k
  · exact ⟨by dsimp only; rw [if_pos hk, hk], fun k h => absurd h (by rw [hk]; nofun), fun k h => absurd h (by rw [hk]; nofun),
      fun _ => outside_scan s _⟩
  · have rows := outside_commitRows k s.scan.committed (rowsPassed s.grid s.windows[w].height (max s.scan.progress y)) s
    refine ⟨?_, fun j h z => ?_, fun j h => ?_, fun h => absurd h (by rw [hk]; nofun)⟩
    · rw [hk, if_neg nofun]
      dsimp only
      rw [rows .scan (by decide)]
    · cases hk.symm.trans h
      exact commitRows_get k _ _ s z
    · cases hk.symm.trans h
      exact dutiesMarked_congr_state (commitRows_marked k _ _ s) rfl rfl rfl

/-- Settles O22 (`advanced`). -/
theorem scanReadsAdvanceTheScan : Obligations.ScanReadsAdvanceTheScan := by
  refine ⟨fun s r w y x0 n h hw hy _ => ?_, fun s r hr hb hp => ?_⟩
  · intro progress passed committed
    have waits : State.isScanStart { s with link := joined s r } w y ≠ true := by
      rw [ne_eq, isScanStart_iff]
      show ¬(y < s.windows[w].height / s.grid.rows
        ∧ (s.scan.pointer ≠ some w ∨ (s.scan.passed = s.grid.rows ∧ y < s.scan.progress)))
      rintro ⟨h1, h2 | ⟨h2, h3⟩⟩
      · exact h2 hw
      · rcases hy with h | h | h
        · omega
        · exact h h2
        · omega
    have run := exec_read_window h.received h.body h.place
    rw [if_pos h.scan, State.scanBeat, if_neg waits, if_pos hw] at run
    have linked := outside_link s (joined s r)
    have frame := outside_advance w y { s with link := joined s r }
    obtain ⟨scan, drive, marked, held⟩ := advanced w y { s with link := joined s r }
    refine ⟨_, run, frame .link (by decide), scan, fun k hk => ⟨fun z hz => ?_, fun z hz => ?_, ?_⟩, fun hn => ?_, ?_⟩
    · exact (drive k hk z).trans (if_pos hz)
    · exact (drive k hk z).trans (if_neg hz)
    · exact dutiesMarked_congr_state (marked k hk) rfl rfl rfl
    · exact outside_step (held hn) (by decide) (outside_mono linked (by decide))
    · exact outside_step frame (by decide) (outside_mono linked (by decide))
  · rcases or_assoc.2 hp with hp | ⟨w, y, x0, n, hp, hf⟩
    · rw [exec_read_one hr hb, readClass_elsewhere r.requester hp]
      rfl
    · rw [exec_read_window hr hb hp]
      rcases hf with hf | ⟨hw, hy⟩
      · rw [hf, if_neg (by decide)]
      · have waits : State.isScanStart { s with link := joined s r } w y ≠ true := by
          rw [ne_eq, isScanStart_iff]
          exact fun e => absurd (Nat.lt_of_lt_of_le e.1 hy) (Nat.lt_irrefl y)
        rw [State.scanBeat, if_neg waits, if_neg hw, ite_self]

/-! ### Analyses (R37, R38, R54, R68) -/

theorem freeSlot_lowest {s : State} {k : SlotNo} (h : s.freeSlot = some k) :
    s.slotTaken k = false ∧ ∀ j : SlotNo, j < k → s.slotTaken j = true := by
  obtain ⟨free, i, hi, hk, below⟩ := List.find?_eq_some_iff_getElem.1 h
  refine ⟨by simpa using free, fun j hj => ?_⟩
  have at' : i = k.val := by
    rw [← hk, List.getElem_finRange]
    rfl
  have := below j.val (by rw [at']; exact hj)
  simpa using this

/-- Settles O16 (`freeSlot_isSome`, `freeSlot_lowest`, `snapshot_spec`). -/
theorem analysisStartsOnTheHead : Obligations.AnalysisStartsOnTheHead := by
  intro s hs inv
  refine ⟨fun w rest ha hq => ?_, fun h => ?_⟩
  · obtain ⟨b, hb⟩ := (inv.queued w).1 (hq ▸ List.mem_cons_self)
    obtain ⟨k, hk⟩ := freeSlot_isSome s w b ha hb
    obtain ⟨free, lowest⟩ := freeSlot_lowest hk
    refine ⟨b, k, s.snapshot, hb, free, lowest, snapshot_spec s, ?_⟩
    show execAnalysisStart s = _
    unfold execAnalysisStart
    rw [if_neg (by rw [hs]; decide), ha, hq]
    dsimp only
    rw [hb]
    dsimp only
    rw [hk]
    rfl
  · show execAnalysisStart s = _
    unfold execAnalysisStart
    rw [if_neg (by rw [hs]; decide)]
    rcases ha : s.engine.analysis with _ | a
    · rw [h.resolve_left (fun e => e ha)]
    · rfl

theorem lateJoin_eq (w : WindowNo) (k : SlotNo) (s : State) :
    s.lateJoin w k = State.commitOrHold w { s with scan := { s.scan with result := some k } } := rfl

/-- The state in which a completed analysis is delivered to its buffer (R68). -/
structure Completed (s u : State) (a : Analysis) : Prop where
  results : u.results = s.results.set a.slot (analyse s.grid s.banks[a.bank] a).result
  history : u.history = (analyse s.grid s.banks[a.bank] a).history
  engine : u.engine = { s.engine with analysis := none }
  flags : ∀ f, u.flag f
    = (s.flag f || ((analyse s.grid s.banks[a.bank] a).result.budgetLimited && decide (f = .budgetLimited))
        || ((analyse s.grid s.banks[a.bank] a).result.boostLimited && decide (f = .boostLimited)))
  outside : Outside [.results, .history, .accrued, .engine] s u

theorem completeAnalysis_delivers (a : Analysis) (s : State) :
    ∃ u, Completed s u a ∧ s.completeAnalysis a = u.deliver a.buffer a.slot := by
  generalize ho : analyse s.grid s.banks[a.bank] a = o
  have stored : Outside [.results, .history] s { s with results := s.results.set a.slot o.result, history := o.history } :=
    outside_step (outside_history { s with results := s.results.set a.slot o.result } _) (by decide)
      (outside_mono (outside_results s _) (by decide))
  have run : s.completeAnalysis a
      = (State.abortAnalysis ((State.setFlagIf o.result.budgetLimited .budgetLimited
          { s with results := s.results.set a.slot o.result, history := o.history }).setFlagIf o.result.boostLimited
            .boostLimited)).deliver a.buffer a.slot := by
    unfold State.completeAnalysis
    rw [ho]
  have results : ({ s with results := s.results.set a.slot o.result, history := o.history } : State).results
      = s.results.set a.slot o.result := rfl
  have history : ({ s with results := s.results.set a.slot o.result, history := o.history } : State).history = o.history := rfl
  generalize ({ s with results := s.results.set a.slot o.result, history := o.history } : State) = v at *
  have one := outside_setFlagIf o.result.budgetLimited .budgetLimited v
  have two := outside_setFlagIf o.result.boostLimited .boostLimited (v.setFlagIf o.result.budgetLimited .budgetLimited)
  have both : Outside [.accrued] v _ := outside_trans one two
  refine ⟨_, ⟨?_, ?_, ?_, fun f => ?_, ?_⟩, run⟩
  · rw [ho, ← results]
    exact both .results (by decide)
  · rw [ho, ← history]
    exact both .history (by decide)
  · show ({ (State.setFlagIf _ _ (State.setFlagIf _ _ v)).engine with analysis := none } : Engine) = _
    rw [both .engine (by decide), stored .engine (by decide)]
  · have same : v.flag f = s.flag f := by
      unfold State.flag
      rw [stored .accrued (by decide)]
    rw [ho, ← same, ← flag_setFlagIf, ← flag_setFlagIf]
    rfl
  · exact outside_step (outside_abortAnalysis _) (by decide)
      (outside_step both (by decide) (outside_mono stored (by decide)))

/-- Settles O17 (`completeAnalysis_delivers`, `commitOrHold_committed`). -/
theorem analysisCompletes : Obligations.AnalysisCompletes := by
  refine ⟨fun s ha => ?_, fun s a hs ha => ?_⟩
  · refine congrArg Host.Outcome.next ?_
    unfold State.whenLive
    simp only [ha, ite_self]
  · intro o joins
    have run : exec .analysisCompletion s = .next (s.completeAnalysis a) := by
      refine congrArg Host.Outcome.next ((whenLive_live hs _).trans ?_)
      rw [ha]
    obtain ⟨u, done, deliver⟩ := completeAnalysis_delivers a s
    rw [deliver, State.deliver, done.outside .scan (by decide)] at run
    have buffers : u.buffers = s.buffers := done.outside .buffers (by decide)
    by_cases hj : joins
    · rw [if_pos hj, lateJoin_eq] at run
      obtain ⟨x, hx, scan, shown, placed⟩ : ∃ x, x = ({ u.setBuffer a.buffer { u.buffers[a.buffer] with state := .shown a.slot } with
              scan := { (u.setBuffer a.buffer { u.buffers[a.buffer] with state := .shown a.slot }).scan with
                        result := some a.slot } } : State)
          ∧ x.scan = { s.scan with result := some a.slot }
          ∧ x.buffers = s.buffers.set a.buffer { s.buffers[a.buffer] with state := .shown a.slot }
          ∧ Outside [.buffers, .scan] u x := by
        refine ⟨_, rfl, ?_, ?_, ?_⟩
        · show ({ u.scan with result := some a.slot } : ScanTracker) = _
          rw [done.outside .scan (by decide)]
        · rw [← buffers]
          rfl
        · exact outside_step (outside_scan (u.setBuffer _ _) _) (by decide) (outside_mono (outside_setBuffer _ _ u) (by decide))
      rw [← hx] at run
      have com := commitOrHold_committed a.buffer (k := a.slot) (s := x) (by rw [scan])
      have frame := outside_commitOrHold a.buffer x
      have whole : Outside [.results, .history, .accrued, .engine, .buffers, .scan, .drive, .lines, .events] s
          (x.commitOrHold a.buffer) :=
        outside_step frame (by decide) (outside_step placed (by decide) (outside_mono done.outside (by decide)))
      generalize x.commitOrHold a.buffer = t at *
      have before : Outside [.results, .history, .accrued, .engine, .buffers, .scan] s x :=
        outside_step placed (by decide) (outside_mono done.outside (by decide))
      have slot : x.results[a.slot] = o.result := by
        rw [placed .results (by decide), done.results]
        exact Vector.getElem_set_self a.slot.isLt
      have passed : x.scan.passed = s.scan.passed := by rw [scan]
      have grid : x.grid = s.grid := before .grid (by decide)
      have drive : x.drive = s.drive := before .drive (by decide)
      refine ⟨t, run, ?_, ?_, ?_, ?_, fun f hf => ?_, fun h => absurd hj h, fun _ => ⟨?_, fun z => ?_, ?_, ?_, whole⟩⟩
      · rw [frame .results (by decide), placed .results (by decide), done.results]
      · rw [frame .history (by decide), placed .history (by decide), done.history]
      · rw [frame .engine (by decide), placed .engine (by decide), done.engine]
      · rw [if_pos hj, frame .buffers (by decide), shown]
      · have same : x.flag f = u.flag f := by
          unfold State.flag
          rw [placed .accrued (by decide)]
        rw [com.flags f hf, same, done.flags]
      · rw [com.scan, scan]
      · rw [com.drive, passed, grid, drive, slot]
        rfl
      · refine dutiesMarked_congr_state (dutiesMarked_congr com.marked fun z => ?_) (before .lines (by decide)).symm rfl
          (before .tables (by decide)).symm
        rw [passed, grid, drive, slot]
      · rw [com.events, slot]
        exact fallbackLeft_congr (by rw [scan]) (before .events (by decide)) (before .ms (by decide)) a.buffer _
    · rw [if_neg hj] at run
      have frame := outside_setBuffer a.buffer { u.buffers[a.buffer] with state := .ready a.slot } u
      refine ⟨_, run, done.results, done.history, done.engine, ?_, fun f _ => done.flags f, fun _ => ?_,
        fun h => absurd h hj⟩
      · rw [if_neg hj, ← buffers]
        rfl
      · exact outside_step frame (by decide) (outside_mono done.outside (by decide))

/-! ### Supervision (R89 to R91) -/

/-- The scan after an expiry of the supervision timer (R89 to R91). -/
def supervisionEnded : ScanTracker :=
  { pointer := none, result := none, progress := 0, passed := 0, committed := 0, fallback := .fallback, supervision := .stopped }

theorem reached_running {t : Timer} {n e : Nat} (h : t = .running e) : t.reached n = true ↔ n ≤ e := by
  rw [h]
  exact decide_eq_true_iff

theorem exec_supervisionTimerExpiry {s : State} (hs : live s) :
    exec .supervisionTimerExpiry s
      = .next (if s.scan.supervision.reached s.limits.scanTimeout = true then s.superviseExpire else s) :=
  congrArg Host.Outcome.next (whenLive_live hs _)

theorem litInFallback_iff (s : State) (z : Nat) :
    s.litInFallback z = true ↔
      (s.zoneChannel z).isSome = true ∧ s.faults.openMarks.getLsbD z = false ∧ s.faults.shortMarks.getLsbD z = false := by
  simp [State.litInFallback, and_assoc]

/-- Settles O23: fallback writes each zone of the grid once. -/
theorem supervisionTimerExpires : Obligations.SupervisionTimerExpires := by
  refine ⟨fun s e hs he hle hf => ?_, fun s hs => ⟨fun e he hle hf => ?_, fun h => ?_⟩⟩
  · intro duty
    have run := exec_supervisionTimerExpiry hs
    have normal : s.stopSupervision.scan.fallback = .normal := hf
    rw [if_pos ((reached_running he).2 hle), State.superviseExpire] at run
    rw [normal] at run
    have entry : ∀ z, s.stopSupervision.fallbackEntry z = { duty := duty z, gain := 256 } := fun z => by
      have same : s.stopSupervision.litInFallback z = s.litInFallback z := rfl
      unfold State.fallbackEntry
      rw [same]
      exact congrArg (fun d => ({ duty := d, gain := 256 } : DriveEntry)) (if_congr (litInFallback_iff s z) rfl rfl)
    obtain ⟨u, hu, ended, base⟩ : ∃ u, u = ({ s.stopSupervision.endScan with
            scan := { s.stopSupervision.endScan.scan with fallback := .fallback } } : State)
        ∧ u.scan = supervisionEnded ∧ Outside [.scan] s u :=
      ⟨_, rfl, rfl, outside_scan s _⟩
    have run' : exec .supervisionTimerExpiry s
        = .next ((((List.range s.grid.zones).foldl (fun t z => t.writeDrive z { duty := duty z, gain := 256 }) u).addEvent
            .fallbackEnter (windowSubject s.scan.pointer) 0).setFlag .fallbackSeen) := by
      rw [run, hu]
      simp only [← entry]
      rfl
    have writes : Outside [.drive, .lines] u
        ((List.range s.grid.zones).foldl (fun t z => t.writeDrive z { duty := duty z, gain := 256 }) u) :=
      outside_foldl (fun t z => outside_writeDrive z _ t) _ u
    have drive : ∀ z, ((List.range s.grid.zones).foldl (fun t z => t.writeDrive z { duty := duty z, gain := 256 }) u).drive.get z
        = if z < s.grid.zones then { duty := duty z, gain := 256 } else s.drive.get z := fun z => by
      refine (foldl_writeDrive (fun n => n) (fun z => { duty := duty z, gain := 256 }) (List.range s.grid.zones) u z).trans ?_
      rw [base .drive (by decide)]
      exact if_congr (by simp) rfl rfl
    have marked := foldl_writeDrive_marked (fun z => { duty := duty z, gain := 256 }) (List.range s.grid.zones)
      List.nodup_range u
    dsimp only at marked
    generalize (List.range s.grid.zones).foldl (fun t z => t.writeDrive z { duty := duty z, gain := 256 }) u = v at *
    have told := outside_addEvent .fallbackEnter (windowSubject s.scan.pointer) 0 v
    have seen := outside_setFlag .fallbackSeen (v.addEvent .fallbackEnter (windowSubject s.scan.pointer) 0)
    have report : Outside [.events, .accrued] v _ := outside_step seen (by decide) told
    have whole : Outside [.scan, .drive, .lines] s v := outside_step writes (by decide) (outside_mono base (by decide))
    refine ⟨_, run', ?_, fun z => ?_, ?_, ?_, ?_, outside_step report (by decide) (outside_mono whole (by decide))⟩
    · rw [report .scan (by decide), writes .scan (by decide), ended]
      rfl
    · rw [report .drive (by decide), drive]
    · refine dutiesMarked_congr_state (dutiesMarked_congr marked fun z => ?_) (base .lines (by decide)).symm
        (report .lines (by decide)) (base .tables (by decide)).symm
      rw [List.mem_range, base .drive (by decide)]
    · rw [seen .events (by decide), events_addEvent, whole .events (by decide), whole .ms (by decide)]
      rcases s.scan.pointer with _ | w <;> rfl
    · have full : overrun v = overrun s := by
        unfold overrun
        rw [whole .events (by decide)]
      have added := flagsAdded_trans (flagsAdded_trans (flagsAdded_of_outside whole)
        (flagsAdded_addEvent .fallbackEnter (windowSubject s.scan.pointer) 0 v)) (flagsAdded_setFlag .fallbackSeen _)
      rw [full] at added
      exact flagsAdded_congr added fun f => by simp [or_comm]
  · rw [exec_supervisionTimerExpiry hs, if_pos ((reached_running he).2 hle), State.superviseExpire]
    rw [show s.stopSupervision.scan.fallback = .fallback from hf]
    refine congrArg Host.Outcome.next ?_
    show ({ s with scan :=
        { pointer := none, result := none, progress := 0, passed := 0, committed := 0, fallback := s.scan.fallback,
          supervision := .stopped } } : State) = _
    rw [hf]
  · rw [exec_supervisionTimerExpiry hs, if_neg]
    rcases ht : s.scan.supervision with _ | e
    · exact nofun
    · rw [reached_running rfl]
      exact Nat.not_le.2 (h e ht)

end Sys2Proof.Laws
end

section
/-! SUPPORT. The stages of an analysis (chapter 4): the neighbours of a zone, what each stage gives a zone, and the bounds of a
result (R58 to R67, R71, R72). -/

namespace Sys2Proof.Laws

-- Each proof may wait for an earlier one; run one after another they need no thread each.
set_option Elab.async false

open Sys2Proof Sys2Proof.Machine Sys2Proof.Safety

/-! ### The neighbours of a zone (section 4.5) -/

/-- The entry of the neighbourhood of zone `z` for zone `j`: `j` itself, |dy| and |dx|. -/
def around (g : Grid) (z j : Nat) : Nat × Nat × Nat :=
  (j, apart (j / g.columns) (z / g.columns), apart (j % g.columns) (z % g.columns))

theorem apart_le_two {a b : Nat} : apart a b ≤ 2 ↔ b - 2 ≤ a ∧ a < b + 3 := by
  unfold apart
  omega

/-- A row-major index names its row and its column. -/
theorem div_mod_of_index {n r c : Nat} (hc : c < n) : (r * n + c) / n = r ∧ (r * n + c) % n = c := by
  have hn : 0 < n := by omega
  refine ⟨?_, ?_⟩
  · rw [Nat.mul_comm, Nat.mul_add_div hn, Nat.div_eq_of_lt hc, Nat.add_zero]
  · rw [Nat.mul_comm, Nat.mul_add_mod, Nat.mod_eq_of_lt hc]

theorem mem_neighbours {g : Grid} {z : Nat} {x : Nat × Nat × Nat} :
    x ∈ neighbours g z ↔ ∃ j, j < g.zones ∧ near g z j ∧ x = around g z j := by
  have bounded (k i n : Nat) : i ∈ List.range' (k - 2) (min (k + 3) n - (k - 2)) ↔ apart i k ≤ 2 ∧ i < n := by
    rw [List.mem_range'_1, apart_le_two]
    omega
  simp only [neighbours, List.mem_flatMap, List.mem_map, bounded]
  constructor
  · rintro ⟨r, ⟨hr, hrn⟩, c, ⟨hc, hcn⟩, rfl⟩
    obtain ⟨hd, hm⟩ := div_mod_of_index (r := r) hcn
    refine ⟨r * g.columns + c, ?_, ?_, ?_⟩
    · calc r * g.columns + c < r * g.columns + g.columns := by omega
        _ = (r + 1) * g.columns := (Nat.succ_mul _ _).symm
        _ ≤ g.rows * g.columns := Nat.mul_le_mul_right _ hrn
        _ = g.zones := Nat.mul_comm _ _
    · rw [near, hd, hm]
      exact ⟨hr, hc⟩
    · rw [around, hd, hm]
  · rintro ⟨j, hj, ⟨hr, hc⟩, rfl⟩
    have columns : 0 < g.columns := by
      rcases Nat.eq_zero_or_pos g.columns with h | h
      · rw [Grid.zones, h, Nat.zero_mul] at hj
        cases hj
      · exact h
    refine ⟨j / g.columns, ⟨hr, ?_⟩, j % g.columns, ⟨hc, Nat.mod_lt _ columns⟩, ?_⟩
    · exact Nat.div_lt_of_lt_mul hj
    · rw [Nat.div_add_mod' j g.columns]
      rfl

theorem nodup_neighbours (g : Grid) (z : Nat) : (neighbours g z).Nodup := by
  have distinct (r c : Nat) (hc : c ∈ List.range' (z % g.columns - 2) (min (z % g.columns + 3) g.columns - (z % g.columns - 2))) :
      (r * g.columns + c) / g.columns = r := by
    rw [List.mem_range'_1] at hc
    exact (div_mod_of_index (by omega)).1
  refine List.nodup_flatMap.2 ⟨fun r _ => ?_, ?_⟩
  · refine List.Nodup.map_on (fun c hc d hd h => ?_) List.nodup_range'
    have index : r * g.columns + c = r * g.columns + d := (Prod.ext_iff.1 h).1
    exact Nat.add_left_cancel index
  · refine (List.nodup_range' (step := 1)).imp_of_mem fun {r q} _ _ hne => ?_
    rintro x hr hq
    obtain ⟨c, hc, rfl⟩ := List.mem_map.1 hr
    obtain ⟨d, hd, h⟩ := List.mem_map.1 hq
    refine hne ?_
    have index : r * g.columns + c = q * g.columns + d := ((Prod.ext_iff.1 h).1).symm
    rw [← (distinct r c hc), index, distinct q d hd]

theorem neighbours_perm (g : Grid) (z : Nat) :
    (neighbours g z).Perm
      (((List.range g.zones).filter fun j =>
          decide (apart (j / g.columns) (z / g.columns) ≤ 2 ∧ apart (j % g.columns) (z % g.columns) ≤ 2)).map (around g z)) := by
  refine (List.perm_ext_iff_of_nodup (nodup_neighbours g z) ?_).2 fun x => ?_
  · exact (List.nodup_range.filter _).map fun i j h => (Prod.ext_iff.1 h).1
  · rw [mem_neighbours, List.mem_map]
    refine exists_congr fun j => ?_
    rw [List.mem_filter, List.mem_range, decide_eq_true_iff, and_assoc]
    exact and_congr_right fun _ => and_congr_right fun _ => eq_comm

theorem sum_map_filter {α : Type} (p : α → Prop) [DecidablePred p] (f : α → Nat) (l : List α) :
    ((l.filter fun a => decide (p a)).map f).sum = (l.map fun a => if p a then f a else 0).sum := by
  induction l with
  | nil => rfl
  | cons a l ih =>
    rw [List.map_cons, List.sum_cons, ← ih]
    by_cases h : p a
    · rw [if_pos h, List.filter_cons_of_pos (by simpa using h), List.map_cons, List.sum_cons]
    · rw [if_neg h, List.filter_cons_of_neg (by simpa using h), Nat.zero_add]

/-- R66: the light that falls on a zone, as a sum over the whole grid. -/
theorem lightOn_eq (p : ParamSet) (g : Grid) (light : Nat → Nat) (z : Nat) :
    lightOn p g light z
      = ((List.range g.zones).map fun j =>
          if apart (j / g.columns) (z / g.columns) ≤ 2 ∧ apart (j % g.columns) (z % g.columns) ≤ 2 then
            light j * weight g p.spread z j
          else 0).sum / 4096 := by
  unfold lightOn
  rw [((neighbours_perm g z).map _).sum_eq, List.map_map,
    sum_map_filter (fun j => apart (j / g.columns) (z / g.columns) ≤ 2 ∧ apart (j % g.columns) (z % g.columns) ≤ 2)]
  rfl

theorem foldl_max_spec (l : List Nat) (m : Nat) :
    (m ≤ l.foldl max m ∧ ∀ x ∈ l, x ≤ l.foldl max m) ∧ (l.foldl max m = m ∨ l.foldl max m ∈ l) := by
  induction l generalizing m with
  | nil => exact ⟨⟨Nat.le_refl m, nofun⟩, Or.inl rfl⟩
  | cons a l ih =>
    obtain ⟨⟨hm, hl⟩, attained⟩ := ih (max m a)
    rw [List.foldl_cons]
    refine ⟨⟨(Nat.le_max_left m a).trans hm, fun x hx => ?_⟩, ?_⟩
    · rcases List.mem_cons.1 hx with rfl | hx
      · exact (Nat.le_max_right m x).trans hm
      · exact hl x hx
    · rcases attained with e | e
      · rw [e]
        rcases Nat.le_total m a with h | h
        · exact Or.inr (by rw [Nat.max_eq_right h]; exact List.mem_cons_self)
        · exact Or.inl (Nat.max_eq_left h)
      · exact Or.inr (List.mem_cons_of_mem a e)

/-- R61: the halo guard is the largest of the weighted levels around the zone. -/
theorem haloGuard_spec (p : ParamSet) (g : Grid) (tone : Nat → Nat) {z : Nat} (hz : z < g.zones) :
    (∀ j, j < g.zones → near g z j → tone j * weight g p.halo z j / 256 ≤ haloGuard p g tone z)
    ∧ ∃ j, j < g.zones ∧ near g z j ∧ haloGuard p g tone z = tone j * weight g p.halo z j / 256 := by
  obtain ⟨⟨-, above⟩, attained⟩ :=
    foldl_max_spec ((neighbours g z).map fun n => tone n.1 * quarter p.halo n.2.1 n.2.2 / 256) 0
  have bound : ∀ j, j < g.zones → near g z j → tone j * weight g p.halo z j / 256 ≤ haloGuard p g tone z :=
    fun j hj hn => above _ (List.mem_map.2 ⟨around g z j, mem_neighbours.2 ⟨j, hj, hn, rfl⟩, rfl⟩)
  refine ⟨bound, ?_⟩
  rcases attained with e | e
  · have itself : near g z z := by
      unfold near apart
      omega
    have none : haloGuard p g tone z = 0 := e
    refine ⟨z, hz, itself, ?_⟩
    have := bound z hz itself
    omega
  · obtain ⟨x, hx, h⟩ := List.mem_map.1 e
    obtain ⟨j, hj, hn, rfl⟩ := mem_neighbours.1 hx
    exact ⟨j, hj, hn, h.symm⟩

/-! ### Darkness, calibration and budget (R58, R64, R65) -/

theorem dark_iff (sn : Snapshot) (z : Nat) : sn.dark z = true ↔ darkIn sn z := by
  unfold Snapshot.dark darkIn
  rcases hc : entryChannel (sn.zoneMap.get z) with _ | c
  · simp
  · simp only [Bool.or_eq_true, bne_iff_ne, ne_eq, Bool.not_eq_true', reduceCtorEq, false_or, Option.some.injEq, exists_eq_left']
    tauto

theorem calibrationOf_eq (sn : Snapshot) (z : Nat) : sn.calibrationOf z = min 4095 (max 256 (sn.calibration.get z).toNat) := by
  unfold Snapshot.calibrationOf
  exact clampTo_eq _ _ _ (by decide)

theorem calibratedDuty_le (dark : Bool) (c f : Nat) : calibratedDuty dark c f ≤ 4095 := by
  unfold calibratedDuty calibratedLevel
  cases dark
  · rw [if_neg (by decide), if_neg (by decide)]
    have level : min f (4193280 / c) * c ≤ 4193280 :=
      (Nat.mul_le_mul_right c (Nat.min_le_right _ _)).trans (Nat.div_mul_le_self _ _)
    omega
  · exact Nat.zero_le _

theorem budgetScale_le (cap total : Nat) : budgetScale cap total ≤ 65536 := by
  unfold budgetScale
  split
  · next h => exact Nat.div_le_of_le_mul (Nat.mul_le_mul_right _ (Nat.le_of_lt h))
  · exact Nat.le_refl _

theorem budgeted_le {scale : Nat} (h : scale ≤ 65536) (x : Nat) : budgeted scale x ≤ x :=
  Nat.div_le_of_le_mul (by rw [Nat.mul_comm]; exact Nat.mul_le_mul_right x h)

theorem budgeted_full (x : Nat) : budgeted 65536 x = x := Nat.mul_div_cancel x (by decide)

theorem sum_budgeted_le (scale : Nat) (l : List Nat) : (l.map (budgeted scale)).sum ≤ l.sum * scale / 65536 := by
  induction l with
  | nil => exact Nat.zero_le _
  | cons a l ih =>
    rw [List.map_cons, List.sum_cons, List.sum_cons, Nat.add_mul]
    exact (Nat.add_le_add_left ih _).trans Nat.div_add_div_le_add_div

/-- R65: the duties after budget sum to at most the cap. -/
theorem sum_budgeted_le_cap (cap : Nat) (l : List Nat) : (l.map (budgeted (budgetScale cap l.sum))).sum ≤ cap := by
  by_cases h : cap < l.sum
  · have scale : budgetScale cap l.sum = cap * 65536 / l.sum := if_pos h
    rw [scale]
    refine (sum_budgeted_le _ l).trans (Nat.div_le_of_le_mul ?_)
    rw [Nat.mul_comm 65536]
    exact Nat.mul_div_le _ _
  · have scale : budgetScale cap l.sum = 65536 := if_neg h
    rw [scale, show budgeted 65536 = id from funext budgeted_full, List.map_id]
    omega

theorem gainFor_ok {p : ParamSet} (h : gainOk p.gainCeiling) (e : Nat) : gainOk (gainFor p e) := by
  obtain ⟨low, high⟩ := h
  unfold gainFor gainOk
  split <;> omega

/-! ### The stages as values (R59 to R66) -/

/-- The stages that the model keeps, with the statistic and the tone from which they come. -/
def stageValues (g : Grid) (bank : Bank) (sn : Snapshot) : StageValues :=
  let st := stages g bank sn
  { statistic := fun z => Machine.statistic sn.params (bank.zones.get z)
    tone := fun z => toneCurve sn.params (Machine.statistic sn.params (bank.zones.get z))
    halo := st.halo.get
    boost := fun z => boostCount sn.params (st.halo.get z) (boostBefore sn z)
    limited := fun z => boostedLevel sn.params (st.halo.get z) (boostBefore sn z)
    filtered := st.filtered.get
    level := st.level.get
    duty := st.duty.get
    light := st.light.get
    falling := fun z => lightOn sn.params g st.light.get z }

section
variable {g : Grid} {z : Nat} (hz : z < g.zones) (bank : Bank) (sn : Snapshot)
include hz

theorem stages_halo :
    (stages g bank sn).halo.get z
      = haloGuard sn.params g
          (ZoneTable.ofFn (d := 0) g.zones fun j => toneCurve sn.params (Machine.statistic sn.params (bank.zones.get j))).get z :=
  (ZoneTable.get_ofFn _ _ _).trans (if_pos hz)

theorem stages_filtered :
    (stages g bank sn).filtered.get z
      = filteredLevel sn.params (sceneCut sn.params sn.history (globalMean g bank))
          (boostedLevel sn.params ((stages g bank sn).halo.get z) (boostBefore sn z)) (sn.history.zones.get z).level :=
  (ZoneTable.get_ofFn _ _ _).trans (if_pos hz)

theorem stages_level :
    (stages g bank sn).level.get z
      = calibratedLevel (sn.dark z) (sn.calibrationOf z) ((stages g bank sn).filtered.get z) :=
  (ZoneTable.get_ofFn _ _ _).trans (if_pos hz)

theorem stages_duty :
    (stages g bank sn).duty.get z
      = calibratedDuty (sn.dark z) (sn.calibrationOf z) ((stages g bank sn).filtered.get z) :=
  (ZoneTable.get_ofFn _ _ _).trans (if_pos hz)

theorem stages_light :
    (stages g bank sn).light.get z = budgeted (stages g bank sn).scale ((stages g bank sn).level.get z) :=
  (ZoneTable.get_ofFn _ _ _).trans (if_pos hz)

theorem analyse_duty (a : Analysis) :
    (analyse g bank a).result.duty.get z = budgeted (stages g bank a.snap).scale ((stages g bank a.snap).duty.get z) :=
  (ZoneTable.get_ofFn _ _ _).trans (if_pos hz)

theorem analyse_gain (a : Analysis) :
    (analyse g bank a).result.gain.get z = gainFor a.snap.params (lightOn a.snap.params g (stages g bank a.snap).light.get z) :=
  (ZoneTable.get_ofFn _ _ _).trans (if_pos hz)

end

theorem stages_total (g : Grid) (bank : Bank) (sn : Snapshot) :
    (stages g bank sn).total = ((List.range g.zones).map (stages g bank sn).duty.get).sum := rfl

theorem stages_scale (g : Grid) (bank : Bank) (sn : Snapshot) :
    (stages g bank sn).scale = budgetScale sn.cap (stages g bank sn).total := rfl

/-- R63 in two cases: at the level itself the step down is 0. -/
theorem filteredLevel_eq (p : ParamSet) (cut : Bool) (h prev : Nat) :
    filteredLevel p cut h prev
      = if cut = true then h
        else if prev < h then prev + ((h - prev) * p.upRate + 15) / 16
        else prev - ((prev - h) * p.downRate + 15) / 16 := by
  unfold filteredLevel
  by_cases down : h < prev
  · rw [if_pos down]
  · rw [if_neg down]
    by_cases up : prev < h
    · rw [if_pos up, if_pos up]
    · have none : prev - h = 0 := by omega
      rw [if_neg up, if_neg up, none, Nat.zero_mul]
      rfl

theorem stagesHold (g : Grid) (bank : Bank) (sn : Snapshot) : StagesHold g bank sn (stageValues g bank sn) where
  statistic _ _ := rfl
  tone _ _ := rfl
  halo z hz := by
    have tone (j : Nat) (hj : j < g.zones) :
        (ZoneTable.ofFn (d := 0) g.zones fun j => toneCurve sn.params (Machine.statistic sn.params (bank.zones.get j))).get j
          = (stageValues g bank sn).tone j := (ZoneTable.get_ofFn _ _ _).trans (if_pos hj)
    have guard : (stageValues g bank sn).halo z = _ := stages_halo hz bank sn
    obtain ⟨above, j, hj, hn, attained⟩ := haloGuard_spec sn.params g
      (ZoneTable.ofFn (d := 0) g.zones fun j => toneCurve sn.params (Machine.statistic sn.params (bank.zones.get j))).get hz
    rw [guard]
    refine ⟨fun i hi hni => ?_, j, hj, hn, ?_⟩
    · rw [← tone i hi]
      exact above i hi hni
    · rw [← tone j hj]
      exact attained
  boost z _ := by
    refine ⟨rfl, ?_⟩
    show boostedLevel sn.params _ _ = _
    unfold boostedLevel boostLimits
    simp only [Bool.and_eq_true, decide_eq_true_eq]
    rfl
  filtered z hz := by
    have filter : (stageValues g bank sn).filtered z = _ := stages_filtered hz bank sn
    have cut : sceneCut sn.params sn.history (globalMean g bank) = true
        ↔ sn.history.valid = false ∨ sn.params.cutThreshold < apart (meanOf g bank) sn.history.mean := by
      unfold sceneCut
      rw [Bool.or_eq_true, Bool.not_eq_true', decide_eq_true_iff]
      rfl
    intro p h
    rw [filter, filteredLevel_eq]
    exact if_congr cut rfl rfl
  calibrated z hz := by
    have level : (stageValues g bank sn).level z = _ := stages_level hz bank sn
    have duty : (stageValues g bank sn).duty z = _ := stages_duty hz bank sn
    intro c
    have entry : sn.calibrationOf z = c := calibrationOf_eq sn z
    rw [level, duty, entry]
    refine ⟨fun h => ?_, fun h => ?_⟩
    · rw [(dark_iff sn z).2 h]
      exact ⟨rfl, rfl⟩
    · rw [Bool.eq_false_iff.2 fun e => h ((dark_iff sn z).1 e)]
      exact ⟨rfl, rfl⟩
  light z hz := by
    have light : (stageValues g bank sn).light z = _ := stages_light hz bank sn
    have total : (stageValues g bank sn).total g = (stages g bank sn).total := rfl
    rw [light, total, stages_scale, budgetScale]
    by_cases h : sn.cap < (stages g bank sn).total
    · rw [if_pos h, if_pos h]
      rfl
    · rw [if_neg h, if_neg h, budgeted_full]
      rfl
  falling z _ := lightOn_eq sn.params g (stages g bank sn).light.get z

/-- Settles O19: the stages by `stagesHold`, the cap by `sum_budgeted_le_cap`, the gains by `gainFor_ok`. -/
theorem resultKeepsItsBounds : Obligations.ResultKeepsItsBounds := by
  intro g bank a r h p
  have duties (z : Nat) (hz : z < g.zones) :
      r.duty.get z = budgeted (stages g bank a.snap).scale ((stages g bank a.snap).duty.get z) := analyse_duty hz bank a
  have gains (z : Nat) (hz : z < g.zones) :
      r.gain.get z = gainFor p (lightOn p g (stages g bank a.snap).light.get z) := analyse_gain hz bank a
  refine ⟨⟨stageValues g bank a.snap, stagesHold g bank a.snap, fun z hz => ⟨?_, ?_, ?_⟩, rfl, rfl, ?_⟩, ?_, rfl, rfl, rfl, rfl,
    rfl, rfl, rfl, ⟨(List.range g.zones).filter fun z => a.snap.dark z, ?_, rfl, fun z => ?_⟩, ?_, fun z hz hd => ?_, fun hg z => ?_⟩
  · have total : (stageValues g bank a.snap).total g = (stages g bank a.snap).total := rfl
    rw [duties z hz, stages_scale, total, budgetScale]
    by_cases hc : a.snap.cap < (stages g bank a.snap).total
    · rw [if_pos hc, if_pos hc]
      rfl
    · rw [if_neg hc, if_neg hc, budgeted_full]
      rfl
  · exact gains z hz
  · exact (ZoneTable.get_ofFn _ _ _).trans (if_pos hz)
  · show ((List.range g.zones).any fun z => boostLimits p ((stages g bank a.snap).halo.get z) (boostBefore a.snap z)) = true ↔ _
    simp only [List.any_eq_true, List.mem_range, boostLimits, Bool.and_eq_true, decide_eq_true_eq]
    rfl
  · exact decide_eq_true_iff
  · exact List.nodup_range.filter _
  · rw [List.mem_filter, List.mem_range]
    exact and_congr_right fun _ => dark_iff a.snap z
  · have each : (List.range g.zones).map r.duty.get
        = ((List.range g.zones).map (stages g bank a.snap).duty.get).map (budgeted (stages g bank a.snap).scale) := by
      rw [List.map_map]
      exact List.map_congr_left fun z hz => duties z (List.mem_range.1 hz)
    rw [each, stages_scale, stages_total]
    exact sum_budgeted_le_cap _ _
  · rw [duties z hz, stages_duty hz, (dark_iff a.snap z).2 hd]
    exact Nat.le_antisymm (budgeted_le (budgetScale_le _ _) _) (Nat.zero_le _)
  · by_cases hz : z < g.zones
    · rw [gains z hz]
      exact gainFor_ok hg _
    · have absent : r.gain.get z = 256 := (ZoneTable.get_ofFn _ _ _).trans (if_neg hz)
      rw [absent]
      exact ⟨by decide, by decide⟩

/-- Every duty and gain of a result lies in its range (R67, R72). -/
theorem analyse_ok (g : Grid) (bank : Bank) {a : Analysis} (h : gainOk a.snap.params.gainCeiling) :
    resultOk (analyse g bank a).result := fun z => by
  by_cases hz : z < g.zones
  · rw [analyse_duty hz, analyse_gain hz, stages_duty hz]
    exact ⟨(budgeted_le (budgetScale_le _ _) _).trans (calibratedDuty_le _ _ _), gainFor_ok h _⟩
  · have duty : (analyse g bank a).result.duty.get z = 0 := (ZoneTable.get_ofFn _ _ _).trans (if_neg hz)
    have gain : (analyse g bank a).result.gain.get z = 256 := (ZoneTable.get_ofFn _ _ _).trans (if_neg hz)
    rw [duty, gain]
    exact ⟨by decide, by decide, by decide⟩

end Sys2Proof.Laws
end

section
/-! SUPPORT. The returns of forwarded reads (R13, R95 to R104): the words of a compensated beat, and when compensation limits
a word. -/

namespace Sys2Proof.Laws

-- Each proof may wait for an earlier one; run one after another they need no thread each.
set_option Elab.async false

open Sys2Proof Sys2Proof.Machine Sys2Proof.Safety

/-! ### The words of a beat -/

/-- The words below the lowest one of a row of words. -/
theorem extract_append_word {n : Nat} (x : BitVec n) (w : Word) (j : Nat) :
    (x ++ w).extractLsb' (32 * (j + 1)) 32 = x.extractLsb' (32 * j) 32 := by
  rw [BitVec.extractLsb'_append_eq_of_le (by omega)]
  congr 1

theorem pixelWord_beatOfWords (f : Nat → Word) {k : Nat} (hk : k < 8) : pixelWord (beatOfWords f) k = f k := by
  unfold pixelWord beatOfWords
  obtain rfl | rfl | rfl | rfl | rfl | rfl | rfl | rfl :
      k = 0 ∨ k = 1 ∨ k = 2 ∨ k = 3 ∨ k = 4 ∨ k = 5 ∨ k = 6 ∨ k = 7 := by omega
  case inr.inr.inr.inr.inr.inr.inr => simp only [extract_append_word, Nat.mul_zero, BitVec.extractLsb'_eq_self]
  all_goals
    simp only [extract_append_word, Nat.mul_zero]
    exact BitVec.extractLsb'_append_eq_right

/-! ### Gains and limits (R98 to R104) -/

/-- Weights stay below 256, over an empty grid too. -/
theorem place_weight_lt (n size pos : Nat) : (place n size pos).2 ≤ 255 := by
  rcases Nat.eq_zero_or_pos n with rfl | hn
  · have centre : ∀ i, doubledCentre 0 size i = 0 := fun i => by simp [doubledCentre, extentStart]
    unfold place
    rw [centre, if_neg (Nat.not_lt_zero pos)]
    dsimp only
    rw [if_neg (Nat.succ_ne_zero _), centre, centre]
    simp
  · exact place_weight_le hn

/-- A mean of four gains of at least 256 is at least 256 (R100). -/
theorem blend_ge {s : State} (h : ∀ z, 256 ≤ (s.drive.get z).gain) {rl wy cl wx : Nat} (hy : wy ≤ 255) (hx : wx ≤ 255) :
    256 ≤ s.blend rl wy cl wx := by
  have mean (a b w : Nat) (ha : 256 ≤ a) (hb : 256 ≤ b) (hw : w ≤ 255) : 65536 ≤ a * (256 - w) + b * w := by
    have := Nat.mul_le_mul_right (256 - w) ha
    have := Nat.mul_le_mul_right w hb
    omega
  unfold State.blend
  dsimp only
  have top := mean _ _ wx (h (rl * s.grid.columns + cl)) (h (rl * s.grid.columns + if wx = 0 then cl else cl + 1)) hx
  have bottom := mean _ _ wx (h ((if wy = 0 then rl else rl + 1) * s.grid.columns + cl))
    (h ((if wy = 0 then rl else rl + 1) * s.grid.columns + if wx = 0 then cl else cl + 1)) hx
  have := Nat.mul_le_mul_right (256 - wy) top
  have := Nat.mul_le_mul_right wy bottom
  rw [Nat.le_div_iff_mul_le (by decide)]
  unfold State.gainAt
  omega

theorem blendedGain_ge {s : State} (h : ∀ z, 256 ≤ (s.drive.get z).gain) (c : ReadClass) (x : Nat) :
    256 ≤ s.blendedGain c x :=
  blend_ge h (place_weight_lt _ _ _) (place_weight_lt _ _ _)

theorem scaled_mono (g : Nat) {a b : Nat} (h : a ≤ b) : scaled g a ≤ scaled g b :=
  Nat.div_le_div_right (Nat.add_le_add_right (Nat.mul_le_mul_right g h) _)

/-- R104: a word is limited exactly when its largest field leaves its range under the blended gain. -/
theorem limitsWord_iff (c : ReadClass) (g : Nat) (w : Word) :
    limitsWord c g w = true ↔ fullScale c.format < scaled g (largestField c.format w) := by
  have field : ∀ u, fullScale c.format < scaled u (largestField c.format w)
      ↔ fullScale c.format < scaled u (colours c.format w).1 ∨ fullScale c.format < scaled u (colours c.format w).2.1
        ∨ fullScale c.format < scaled u (colours c.format w).2.2 := fun u => by
    unfold largestField
    dsimp only
    constructor
    · intro h
      rcases Nat.le_total (colours c.format w).1 (max (colours c.format w).2.1 (colours c.format w).2.2) with h1 | h1
      · rw [Nat.max_eq_right h1] at h
        rcases Nat.le_total (colours c.format w).2.1 (colours c.format w).2.2 with h2 | h2
        · rw [Nat.max_eq_right h2] at h
          exact Or.inr (Or.inr h)
        · rw [Nat.max_eq_left h2] at h
          exact Or.inr (Or.inl h)
      · rw [Nat.max_eq_left h1] at h
        exact Or.inl h
    · rintro (h | h | h)
      · exact h.trans_le (scaled_mono u (Nat.le_max_left _ _))
      · exact h.trans_le (scaled_mono u ((Nat.le_max_left _ _).trans (Nat.le_max_right _ _)))
      · exact h.trans_le (scaled_mono u ((Nat.le_max_right _ _).trans (Nat.le_max_right _ _)))
  have limits : limitsWord c g w = true ↔ clipActs c g (largestField c.format w) = true
      ∨ fullScale c.format < scaled (wordGain c g (largestField c.format w)) (largestField c.format w) := by
    rw [field]
    simp only [limitsWord, Bool.or_eq_true, decide_eq_true_eq, or_assoc]
  rw [limits]
  by_cases h : clipActs c g (largestField c.format w) = true
  · exact ⟨fun _ => ((clipActs_iff c g _).1 h).2.2, fun _ => Or.inl h⟩
  · rw [wordGain_of_idle h, or_iff_right h]

/-- A gain of at least 256 lowers no field in range. -/
theorem le_scaleField {fmt : PixelFormat} {u v : Nat} (hu : 256 ≤ u) (hv : v ≤ fullScale fmt) : v ≤ scaleField fmt u v := by
  have := Nat.mul_le_mul_left v hu
  refine Nat.le_min.2 ⟨hv, ?_⟩
  unfold scaled
  omega

theorem compensates_iff (s : State) (c : ReadClass) :
    s.compensates c = true ↔
      c.compensate = true ∧ 1 ≤ c.active ∧ 8 * s.grid.columns ≤ c.width ∧ 8 * s.grid.rows ≤ c.height := by
  simp only [State.compensates, Bool.and_eq_true, decide_eq_true_eq, and_assoc]

/-- The words of a beat that leaves upstream (R95, R96). -/
theorem pixelWord_compensate (s : State) (c : ReadClass) (d : Beat) {k : Nat} (hk : k < 8) :
    pixelWord (s.compensate c d) k
      = if s.compensates c = true ∧ k < c.active then
          compensateWord c (s.blendedGain c (c.firstPixel + k)) (pixelWord d k)
        else pixelWord d k := by
  unfold State.compensate
  by_cases hc : s.compensates c = true
  · rw [if_pos hc, pixelWord_beatOfWords _ hk]
    exact if_congr (and_iff_right hc).symm rfl rfl
  · rw [if_neg hc, if_neg fun h => hc h.1]

theorem clips_iff (s : State) (c : ReadClass) (d : Beat) :
    s.clips c d = true ↔ s.compensates c = true ∧ ∃ k, k < 8 ∧ k < c.active
      ∧ fullScale c.format < scaled (s.blendedGain c (c.firstPixel + k)) (largestField c.format (pixelWord d k)) := by
  simp only [State.clips, Bool.and_eq_true, List.any_eq_true, List.mem_range, limitsWord_iff, Nat.lt_min, and_assoc]

/-- No field of a compensated word is lower than it came, and its other bits are as they came (R13, R96). -/
structure NotLowered (fmt : PixelFormat) (v w : Word) : Prop where
  top10 : fmt = .rgb10 → w.extractLsb' 30 2 = v.extractLsb' 30 2
  top8 : fmt = .rgb8 → w.extractLsb' 24 8 = v.extractLsb' 24 8
  red : (colours fmt v).1 ≤ (colours fmt w).1
  green : (colours fmt v).2.1 ≤ (colours fmt w).2.1
  blue : (colours fmt v).2.2 ≤ (colours fmt w).2.2

theorem notLowered_refl (fmt : PixelFormat) (v : Word) : NotLowered fmt v v :=
  ⟨fun _ => rfl, fun _ => rfl, Nat.le_refl _, Nat.le_refl _, Nat.le_refl _⟩

theorem compensateWord_notLowered {c : ReadClass} {g : Nat} (hg : 256 ≤ g) (v : Word) :
    NotLowered c.format v (compensateWord c g v) := by
  obtain ⟨hr, hgr, hb⟩ := colours_le c.format v
  obtain ⟨hlow, -⟩ := wordGain_bounds c hg (largestField_le c.format v)
  refine ⟨fun hf => compensateWord_rgb10_top hf g v, fun hf => compensateWord_rgb8_top hf g v, ?_, ?_, ?_⟩
  all_goals rw [colours_compensateWord]
  · exact le_scaleField hlow hr
  · exact le_scaleField hlow hgr
  · exact le_scaleField hlow hb

/-- Settles O24 (`pixelWord_compensate`, `clips_iff`, `compensateWord_notLowered`). -/
theorem forwardedReturnIsNeverLowered : Obligations.ForwardedReturnIsNeverLowered := by
  intro s e rest classes data hs hd ht ho hg c tracking fits gain rl wy rb blended largest full
  have counted : countReturn e rest = tracking := countReturn_eq e rest
  have scale : full = fullScale c.format := by
    show (match c.format with | .rgb10 => 1023 | .rgb8 => 255) = _
    rcases c.format with _ | _ <;> rfl
  have fit : s.compensates c = true ↔ fits := compensates_iff s c
  have blends : ∀ k, s.blendedGain c (c.firstPixel + k) = blended k := fun _ => rfl
  have route : s.routeReturn e rest data
      = State.returnUpstream c data { s with link := { s.link with tracking := tracking } } := by
    unfold State.routeReturn
    rw [ho, counted]
  have run := exec_returnBeat hs hd ht data
  rw [route, State.returnUpstream] at run
  refine ⟨fun hu => ?_, fun hu => ?_⟩
  · rw [run, if_neg (by show ¬s.link.upstream = .up; rw [hu]; decide)]
  · rw [if_pos (show s.link.upstream = .up from hu)] at run
    have linked := outside_link s { s.link with tracking := tracking, sentUp := s.link.sentUp ++ [s.compensate c data] }
    have clipped := outside_setFlagIf (s.clips c data) .clipped
      { s with link := { s.link with tracking := tracking, sentUp := s.link.sentUp ++ [s.compensate c data] } }
    have flags (f : Flag) := flag_setFlagIf (s.clips c data) .clipped f
      { s with link := { s.link with tracking := tracking, sentUp := s.link.sentUp ++ [s.compensate c data] } }
    have clips := clips_iff s c data
    simp only [blends] at clips
    rw [← scale] at clips
    have word {k : Nat} (hk : k < 8) := pixelWord_compensate s c data hk
    refine ⟨_, s.compensate c data, run, clipped .link (by decide),
      outside_step clipped (by decide) (outside_mono linked (by decide)), fun f hf => ?_, ?_, fun hn => ?_,
      fun hy k hk ha => ?_, fun k hk => ?_⟩
    · refine (flags f).trans ?_
      rw [decide_eq_false hf, Bool.and_false, Bool.or_false]
      rfl
    · refine (iff_of_eq (congrArg (· = true) (flags .clipped))).trans ?_
      rw [Bool.or_eq_true, decide_eq_true rfl, Bool.and_true, clips, fit]
      rfl
    · unfold State.compensate
      rw [if_neg (mt fit.1 hn)]
    · rw [word hk, if_pos ⟨fit.2 hy, ha⟩, blends]
    · have kept : NotLowered c.format (pixelWord data k) (pixelWord (s.compensate c data) k) := by
        rw [word hk]
        split
        · exact compensateWord_notLowered (blendedGain_ge hg c _) _
        · exact notLowered_refl _ _
      obtain ⟨top10, top8, red, green, blue⟩ := kept
      refine ⟨fun ha => ?_, top10, top8, red, green, blue⟩
      rw [word hk, if_neg fun h => Nat.not_lt.2 ha h.2]

end Sys2Proof.Laws
end

section
/-! SUPPORT. A successful POLL (R118, R125 to R128): the test of one channel, of one position, and the whole return as tests one
after another, each on its own channel. -/

namespace Sys2Proof.Laws

-- Each proof may wait for an earlier one; run one after another they need no thread each.
set_option Elab.async false

open Sys2Proof Sys2Proof.Machine Sys2Proof.Safety

/-! ### Events one after another (R167) -/

/-- The event queue of `t` is that of `s` after the events `es`, and EVENT_OVERRUN is set if one of them found it full. -/
structure Told (s t : State) (es : List (EventKind × Subject × Nat)) : Prop where
  events : t.events = es.foldl (fun q e => eventsAfter q s.ms e.1 e.2.1 e.2.2) s.events
  flags : flagsAdded s t (if es ≠ [] ∧ 32 < s.events.length + es.length then [.eventOverrun] else [])

theorem told_nil {s t : State} (he : t.events = s.events) (ha : t.accrued = s.accrued) : Told s t [] :=
  ⟨he, by
    rw [if_neg fun h => h.1 rfl]
    exact flagsAdded_of_accrued ha⟩

/-- After `n` events the queue holds the old records and the new ones, at most 32. -/
theorem length_foldl_eventsAfter (now : Word) (es : List (EventKind × Subject × Nat)) (q : List Event) :
    (es.foldl (fun q e => eventsAfter q now e.1 e.2.1 e.2.2) q).length
      = if es = [] then q.length else min 32 (q.length + es.length) := by
  induction es using List.reverseRecOn with
  | nil => rfl
  | append_singleton es e ih =>
    have grown : es ++ [e] ≠ [] := List.append_ne_nil_of_right_ne_nil _ (List.cons_ne_nil _ _)
    rw [List.foldl_append, List.foldl_cons, List.foldl_nil, length_eventsAfter, ih, if_neg grown, List.length_append,
      List.length_singleton]
    by_cases h : es = []
    · rw [if_pos h, h, List.length_nil]
      omega
    · rw [if_neg h]
      omega

theorem told_trans {s t u : State} {es fs : List (EventKind × Subject × Nat)} (h : Told s t es) (k : Told t u fs)
    (hm : t.ms = s.ms) : Told s u (es ++ fs) := by
  refine ⟨?_, flagsAdded_congr (flagsAdded_trans h.flags k.flags) fun f => ?_⟩
  · rw [k.events, h.events, hm, List.foldl_append]
  · rw [List.mem_append, mem_flagIf, mem_flagIf, mem_flagIf, h.events, length_foldl_eventsAfter, List.length_append]
    rcases es with _ | ⟨e, es⟩
    · simp
    · rcases fs with _ | ⟨g, fs⟩
      · simp
      · have full : 32 < min 32 (s.events.length + (e :: es).length) + (g :: fs).length
            ∨ 32 < s.events.length + (e :: es).length
            ↔ 32 < s.events.length + ((e :: es).length + (g :: fs).length) := by
          simp only [List.length_cons]
          omega
        rw [← or_and_right, if_neg (List.cons_ne_nil e es)]
        refine and_congr_left fun _ => ?_
        simp only [ne_eq, List.cons_ne_nil, not_false_eq_true, true_and, List.cons_append]
        rw [or_comm]
        exact full

/-- One event, and an update that touches neither the queue nor the flags after it. -/
theorem told_addEvent {s t u : State} (k : EventKind) (x : Subject) (d : Nat) (he : t.events = s.events) (hm : t.ms = s.ms)
    (ha : t.accrued = s.accrued) (hue : u.events = (t.addEvent k x d).events) (hua : u.accrued = (t.addEvent k x d).accrued) :
    Told s u [(k, x, d)] := by
  refine ⟨?_, flagsAdded_congr (flagsAdded_congr_state (flagsAdded_addEvent k x d t) ha.symm hua) fun f => ?_⟩
  · rw [hue, events_addEvent, he, hm]
    rfl
  · rw [mem_overrun, mem_flagIf, he]
    simp only [ne_eq, List.cons_ne_nil, not_false_eq_true, true_and, List.length_singleton]
    refine and_congr_left fun _ => ?_
    omega

/-! ### Zones and channels (R108) -/

theorem channelZone_zoneChannel {s : State} {l : LineNo} {p k z : Nat} (h : s.channelZone l p k = some z) :
    ∃ c, s.zoneChannel z = some c ∧ c.line = l ∧ c.position.val = p ∧ c.channel.val = k := by
  have found := List.find?_some h
  rcases hc : s.zoneChannel z with _ | c
  · rw [hc] at found
    cases found
  · rw [hc] at found
    simp only [Bool.and_eq_true, beq_iff_eq, and_assoc] at found
    exact ⟨c, rfl, found⟩

/-- A zone lights one channel only. -/
theorem channelZone_inj {s : State} {l : LineNo} {p k q j z : Nat} (h : s.channelZone l p k = some z)
    (g : s.channelZone l q j = some z) : p = q ∧ k = j := by
  obtain ⟨c, hc, -, rfl, rfl⟩ := channelZone_zoneChannel h
  obtain ⟨d, hd, -, rfl, rfl⟩ := channelZone_zoneChannel g
  cases hc.symm.trans hd
  exact ⟨rfl, rfl⟩

theorem channelZone_of_outside {s t : State} (h : Outside pollPieces s t) (l : LineNo) (p k : Nat) :
    t.channelZone l p k = s.channelZone l p k := by
  unfold State.channelZone State.zoneChannel
  rw [h .grid (by decide), h .tables (by decide)]

/-! ### The tests of a return (R125) -/

/-- A test: position, channel and kind. -/
abbrev ChannelTest := Nat × Nat × FaultKind

/-- The report bit of a test. -/
def reportedBit (bytes : List Byte) : ChannelTest → Bool
  | (p, k, .openString) => (pollReport bytes p).openMask.getLsbD k
  | (p, k, .shortString) => (pollReport bytes p).shortMask.getLsbD k

/-- The suspect mark of a test. -/
def suspectBit (s : State) (l : LineNo) (x : ChannelTest) : Bool := (s.lines[l].suspects x.2.2).getLsbD (16 * x.1 + x.2.1)

/-- The zone that a test confirms. -/
def confirms (s : State) (l : LineNo) (bytes : List Byte) (x : ChannelTest) : Option Nat :=
  confirmedZone s l bytes x.2.2 x.1 x.2.1

/-- The suspect mark that a test leaves (R125). -/
def suspectAfter (s : State) (l : LineNo) (bytes : List Byte) (x : ChannelTest) : Bool :=
  match s.channelZone l x.1 x.2.1 with
  | some z => if s.zoneMarked x.2.2 z = false then reportedBit bytes x && !suspectBit s l x else suspectBit s l x
  | none => suspectBit s l x

theorem confirms_iff {s : State} {l : LineNo} {bytes : List Byte} {x : ChannelTest} {z : Nat} :
    confirms s l bytes x = some z ↔
      s.channelZone l x.1 x.2.1 = some z ∧ s.zoneMarked x.2.2 z = false ∧ reportedBit bytes x = true
        ∧ suspectBit s l x = true := by
  obtain ⟨p, k, kind⟩ := x
  unfold confirms confirmedZone suspectBit reportedBit
  dsimp only
  rcases s.channelZone l p k with _ | y
  · exact ⟨nofun, fun h => by cases h.1⟩
  · have chosen (c : Prop) [Decidable c] : (if c then some y else none) = some z ↔ some y = some z ∧ c := by
      by_cases h : c
      · rw [if_pos h]
        exact (and_iff_left h).symm
      · rw [if_neg h]
        exact ⟨nofun, fun e => absurd e.2 h⟩
    cases kind
    · exact (chosen _).trans (and_congr_right fun e => by cases e; exact Iff.rfl)
    · exact (chosen _).trans (and_congr_right fun e => by cases e; exact Iff.rfl)

/-- The event of a confirmation. -/
def confirmEvent (l : LineNo) (x : ChannelTest) (z : Nat) : EventKind × Subject × Nat :=
  (faultEvent x.2.2, .zone z, l.val * 512 + x.1 * 16 + x.2.1)

/-- What the tests `xs`, made in state `s`, have done. -/
structure Tested (s t : State) (l : LineNo) (bytes : List Byte) (xs : List ChannelTest) : Prop where
  outside : Outside pollPieces s t
  others : ∀ m, m ≠ l → t.lines[m] = s.lines[m]
  line : t.lines[l]
    = { s.lines[l] with
        setupOwed := t.lines[l].setupOwed, openSuspect := t.lines[l].openSuspect, shortSuspect := t.lines[l].shortSuspect }
  suspects : ∀ x : ChannelTest, x.1 < 24 → x.2.1 < 16 →
    suspectBit t l x = if x ∈ xs then suspectAfter s l bytes x else suspectBit s l x
  marks : ∀ kind z, z < 5184 →
    (t.zoneMarked kind z = true ↔ s.zoneMarked kind z = true ∨ ∃ x ∈ xs, x.2.2 = kind ∧ confirms s l bytes x = some z)
  setup : t.lines[l].setupOwed = true ↔ s.lines[l].setupOwed = true ∨ ∃ x ∈ xs, ∃ z, confirms s l bytes x = some z
  told : Told s t (xs.filterMap fun x => (confirms s l bytes x).map (confirmEvent l x))

theorem tested_nil (s : State) (l : LineNo) (bytes : List Byte) : Tested s s l bytes [] where
  outside := outside_refl _ s
  others _ _ := rfl
  line := rfl
  suspects _ _ _ := (if_neg List.not_mem_nil).symm
  marks _ _ _ := by simp
  setup := by simp
  told := told_nil rfl rfl

/-! ### One test -/

theorem suspects_withSuspects (x : Line) (k j : FaultKind) (m : BitVec 384) :
    (x.withSuspects k m).suspects j = if j = k then m else x.suspects j := by
  cases k <;> cases j <;> rfl

theorem withSuspects_eq (x : Line) (k : FaultKind) (m : BitVec 384) :
    x.withSuspects k m
      = { x with openSuspect := (x.withSuspects k m).openSuspect, shortSuspect := (x.withSuspects k m).shortSuspect } := by
  cases k <;> rfl

theorem index_inj {p k q j : Nat} (hk : k < 16) (hj : j < 16) : 16 * p + k = 16 * q + j ↔ p = q ∧ k = j := by
  omega

/-- The suspect marks after one is set or cleared. -/
theorem suspectBit_setSuspect (s : State) (l : LineNo) {x y : ChannelTest} (on : Bool) (hx : x.1 < 24) (hxk : x.2.1 < 16)
    (hyk : y.2.1 < 16) :
    suspectBit (s.setSuspect l x.2.2 (channelBit x.1 x.2.1) on) l y = if y = x then on else suspectBit s l y := by
  obtain ⟨p, k, kind⟩ := x
  obtain ⟨q, j, kind'⟩ := y
  have bound : 16 * p + k < 384 := by
    dsimp only at hx hxk
    omega
  unfold suspectBit State.setSuspect channelBit
  dsimp only
  rw [modifyLine_get, if_pos rfl, suspects_withSuspects]
  by_cases hkind : kind' = kind
  · rw [if_pos hkind, hkind]
    have same : (q, j, kind) = (p, k, kind) ↔ 16 * q + j = 16 * p + k := by
      rw [index_inj hyk hxk]
      simp
    rw [if_congr same rfl rfl]
    cases on
    · simp only [Bool.false_eq_true, if_false, BitVec.getLsbD_and, BitVec.getLsbD_not, BitVec.getLsbD_twoPow]
      by_cases h : 16 * q + j = 16 * p + k
      · simp [h]
      · by_cases hb : 16 * q + j < 384
        · simp [h, hb, Ne.symm h]
        · simp [h, BitVec.getLsbD_of_ge _ _ (Nat.not_lt.1 hb)]
    · simp only [if_true, BitVec.getLsbD_or, BitVec.getLsbD_twoPow]
      by_cases h : 16 * q + j = 16 * p + k
      · simp [h, bound]
      · simp [h, Ne.symm h]
  · rw [if_neg hkind, if_neg fun e => hkind (Prod.ext_iff.1 (Prod.ext_iff.1 e).2).2]

theorem zoneMarked_markFault (k j : FaultKind) (z : Nat) {y : Nat} (hy : y < 5184) (s : State) :
    (s.markFault k z).zoneMarked j y = true ↔ s.zoneMarked j y = true ∨ (k = j ∧ z = y) := by
  have mark (m : BitVec 5184) : (m ||| BitVec.twoPow 5184 z).getLsbD y = true ↔ m.getLsbD y = true ∨ z = y := by
    rw [BitVec.getLsbD_or, Bool.or_eq_true, BitVec.getLsbD_twoPow, Bool.and_eq_true, decide_eq_true_iff, decide_eq_true_iff]
    refine or_congr_right ⟨fun h => h.2, fun h => ⟨h ▸ hy, h⟩⟩
  cases k <;> cases j
  · exact (mark _).trans (or_congr_right (and_iff_right rfl).symm)
  · exact ⟨Or.inl, fun h => h.elim id fun e => by cases e.1⟩
  · exact ⟨Or.inl, fun h => h.elim id fun e => by cases e.1⟩
  · exact (mark _).trans (or_congr_right (and_iff_right rfl).symm)

theorem zoneMarked_congr {s t : State} (h : t.faults = s.faults) (k : FaultKind) (z : Nat) :
    t.zoneMarked k z = s.zoneMarked k z := by
  cases k
  · exact congrArg (fun f => f.openMarks.getLsbD z) h
  · exact congrArg (fun f => f.shortMarks.getLsbD z) h

/-- A test that confirms nothing sets or clears the suspect mark of its channel, or leaves it. -/
theorem tested_suspect {s : State} {l : LineNo} {bytes : List Byte} {x : ChannelTest} {on : Bool} (hx : x.1 < 24)
    (hk : x.2.1 < 16) (hc : confirms s l bytes x = none) (ha : suspectAfter s l bytes x = on) :
    Tested s (s.setSuspect l x.2.2 (channelBit x.1 x.2.1) on) l bytes [x] := by
  have frame : Outside [.lines] s (s.setSuspect l x.2.2 (channelBit x.1 x.2.1) on) := outside_modifyLine l _ s
  have line : (s.setSuspect l x.2.2 (channelBit x.1 x.2.1) on).lines[l] = s.lines[l].withSuspects x.2.2 _ :=
    (modifyLine_get l l _ s).trans (if_pos rfl)
  refine ⟨outside_mono frame (by decide), fun m hm => (modifyLine_get l m _ s).trans (if_neg hm), ?_, fun y _ hyk => ?_,
    fun kind z _ => ?_, ?_, ?_⟩
  · rw [line]
    cases x.2.2 <;> rfl
  · rw [suspectBit_setSuspect s l on hx hk hyk]
    by_cases h : y = x
    · rw [if_pos h, if_pos (by rw [h]; exact List.mem_singleton_self x), h, ha]
    · rw [if_neg h, if_neg fun e => h (List.mem_singleton.1 e)]
  · rw [zoneMarked_congr (frame .faults (by decide))]
    simp [hc]
  · have owed : (s.setSuspect l x.2.2 (channelBit x.1 x.2.1) on).lines[l].setupOwed = s.lines[l].setupOwed := by
      rw [line]
      cases x.2.2 <;> rfl
    rw [owed]
    simp [hc]
  · rw [List.filterMap_cons_none (by rw [hc]; rfl), List.filterMap_nil]
    exact told_nil (frame .events (by decide)) (frame .accrued (by decide))

/-- Setting a bit to its own value. -/
theorem setBit_same {w : Nat} (m : BitVec w) (b : Nat) {on : Bool} (h : m.getLsbD b = on) :
    (if on then m ||| BitVec.twoPow w b else m &&& ~~~(BitVec.twoPow w b)) = m := by
  refine BitVec.eq_of_getLsbD_eq fun i hi => ?_
  by_cases e : b = i
  · rw [e] at h
    cases on
    · rw [if_neg (by decide), BitVec.getLsbD_and, h, Bool.false_and]
    · rw [if_pos rfl, BitVec.getLsbD_or, h, Bool.true_or]
  · have bit : (BitVec.twoPow w b).getLsbD i = false := by
      rw [BitVec.getLsbD_twoPow, decide_eq_false e, Bool.and_false]
    cases on
    · rw [if_neg (by decide), BitVec.getLsbD_and, BitVec.getLsbD_not, bit, decide_eq_true hi]
      exact Bool.and_true _
    · rw [if_pos rfl, BitVec.getLsbD_or, bit, Bool.or_false]

theorem setSuspect_same {s : State} {l : LineNo} {x : ChannelTest} {on : Bool} (h : suspectBit s l x = on) :
    s.setSuspect l x.2.2 (channelBit x.1 x.2.1) on = s := by
  refine modifyLine_self l s _ ?_
  rw [setBit_same (s.lines[l].suspects x.2.2) (channelBit x.1 x.2.1) h]
  cases x.2.2 <;> rfl

/-- A test that changes nothing. -/
theorem tested_none {s : State} {l : LineNo} {bytes : List Byte} {x : ChannelTest} (hx : x.1 < 24) (hk : x.2.1 < 16)
    (hc : confirms s l bytes x = none) (ha : suspectAfter s l bytes x = suspectBit s l x) : Tested s s l bytes [x] := by
  have h := tested_suspect hx hk hc ha
  rw [setSuspect_same rfl] at h
  exact h

/-- A test that confirms the fault of zone `z` (R125). -/
theorem tested_confirmed {s : State} {l : LineNo} {bytes : List Byte} {x : ChannelTest} {z : Nat} (hx : x.1 < 24)
    (hk : x.2.1 < 16) (hc : confirms s l bytes x = some z) (ha : suspectAfter s l bytes x = false) :
    Tested s
      ((((s.setSuspect l x.2.2 (channelBit x.1 x.2.1) false).markFault x.2.2 z).addEvent (faultEvent x.2.2) (.zone z)
        (channelDetail l x.1 x.2.1)).modifyLine l fun y => { y with setupOwed := true }) l bytes [x] := by
  have set : Outside [.lines] s (s.setSuspect l x.2.2 (channelBit x.1 x.2.1) false) := outside_modifyLine l _ s
  have cleared := fun (y : ChannelTest) (hy : y.2.1 < 16) => suspectBit_setSuspect s l (y := y) false hx hk hy
  have line : (s.setSuspect l x.2.2 (channelBit x.1 x.2.1) false).lines[l] = s.lines[l].withSuspects x.2.2 _ :=
    (modifyLine_get l l _ s).trans (if_pos rfl)
  have others : ∀ m, m ≠ l → (s.setSuspect l x.2.2 (channelBit x.1 x.2.1) false).lines[m] = s.lines[m] := fun m hm =>
    (modifyLine_get l m _ s).trans (if_neg hm)
  generalize s.setSuspect l x.2.2 (channelBit x.1 x.2.1) false = u at *
  have mark : Outside [.faults] u (u.markFault x.2.2 z) := outside_markFault x.2.2 z u
  have marks := fun (j : FaultKind) (y : Nat) (hy : y < 5184) => zoneMarked_markFault x.2.2 j z hy u
  generalize u.markFault x.2.2 z = v at *
  have told := outside_addEvent (faultEvent x.2.2) (.zone z) (channelDetail l x.1 x.2.1) v
  have owes := outside_modifyLine l (fun y => { y with setupOwed := true })
    (v.addEvent (faultEvent x.2.2) (.zone z) (channelDetail l x.1 x.2.1))
  have lines (m : LineNo) := modifyLine_get l m (fun y => { y with setupOwed := true })
    (v.addEvent (faultEvent x.2.2) (.zone z) (channelDetail l x.1 x.2.1))
  have vlines : v.lines = u.lines := mark .lines (by decide)
  rw [told .lines (by decide), vlines] at lines
  have line' := (lines l).trans (if_pos rfl)
  have whole : Outside [.lines, .events, .accrued] v _ := outside_step owes (by decide) (outside_mono told (by decide))
  have start : Outside [.lines, .faults] s v := outside_step mark (by decide) (outside_mono set (by decide))
  refine ⟨outside_step whole (by decide) (outside_mono start (by decide)), fun m hm => ?_, ?_, fun y _ hyk => ?_,
    fun kind y hy => ?_, ?_, ?_⟩
  · exact ((lines m).trans (if_neg hm)).trans (others m hm)
  · rw [line', line]
    cases x.2.2 <;> rfl
  · have same : suspectBit ((v.addEvent (faultEvent x.2.2) (.zone z) (channelDetail l x.1 x.2.1)).modifyLine l fun y =>
        { y with setupOwed := true }) l y = suspectBit u l y := by
      unfold suspectBit
      rw [line']
      cases y.2.2 <;> rfl
    rw [same, cleared y hyk]
    by_cases h : y = x
    · rw [if_pos h, if_pos (by rw [h]; exact List.mem_singleton_self x), h, ha]
    · rw [if_neg h, if_neg fun e => h (List.mem_singleton.1 e)]
  · rw [zoneMarked_congr (whole .faults (by decide)), marks kind y hy, zoneMarked_congr (set .faults (by decide))]
    simp [hc]
  · rw [line']
    simp [hc]
  · rw [List.filterMap_cons_some (b := confirmEvent l x z) (by rw [hc]; rfl), List.filterMap_nil]
    exact told_addEvent _ _ _ (start .events (by decide)) (start .ms (by decide)) (start .accrued (by decide))
      (owes .events (by decide)) (owes .accrued (by decide))

/-- The test of one channel (R125). -/
theorem testChannel_tested (s : State) (l : LineNo) (bytes : List Byte) {x : ChannelTest} (hx : x.1 < 24) (hk : x.2.1 < 16) :
    Tested s (s.testChannel l x.1 x.2.1 x.2.2 (reportedBit bytes x)) l bytes [x] := by
  have after : suspectAfter s l bytes x = _ := rfl
  unfold suspectAfter at after
  unfold State.testChannel
  rcases hz : s.channelZone l x.1 x.2.1 with _ | z
  · have same : suspectAfter s l bytes x = suspectBit s l x := by
      unfold suspectAfter
      rw [hz]
    refine tested_none hx hk ?_ same
    unfold confirms confirmedZone
    rw [hz]
  · dsimp only
    have same : suspectAfter s l bytes x
        = if s.zoneMarked x.2.2 z = false then reportedBit bytes x && !suspectBit s l x else suspectBit s l x := by
      unfold suspectAfter
      rw [hz]
    have none (h : ¬(s.zoneMarked x.2.2 z = false ∧ reportedBit bytes x = true ∧ suspectBit s l x = true)) :
        confirms s l bytes x = none := by
      rcases hc : confirms s l bytes x with _ | y
      · rfl
      · obtain ⟨hy, rest⟩ := confirms_iff.1 hc
        cases hz.symm.trans hy
        exact absurd rest h
    by_cases hm : s.zoneMarked x.2.2 z = true
    · rw [if_pos hm]
      rw [if_neg (by rw [hm]; decide)] at same
      exact tested_none hx hk (none fun h => by rw [hm] at h; cases h.1) same
    · have unmarked := Bool.eq_false_iff.2 hm
      rw [if_neg hm]
      rw [if_pos unmarked] at same
      have bit : suspectBit s l x = (s.lines[l].suspects x.2.2).getLsbD (channelBit x.1 x.2.1) := rfl
      rw [← bit]
      rcases hr : reportedBit bytes x with _ | _ <;> rcases hb : suspectBit s l x with _ | _ <;> rw [hr, hb] at same
      · exact tested_none hx hk (none fun h => by rw [hr] at h; cases h.2.1) (same.trans hb.symm)
      · exact tested_suspect hx hk (none fun h => by rw [hr] at h; cases h.2.1) same
      · exact tested_suspect hx hk (none fun h => by rw [hb] at h; cases h.2.2) same
      · exact tested_confirmed hx hk (confirms_iff.2 ⟨hz, unmarked, hr, hb⟩) same

/-! ### All tests of a return -/

theorem zoneMarked_of_ge (s : State) (k : FaultKind) {z : Nat} (h : 5184 ≤ z) : s.zoneMarked k z = false := by
  cases k
  · exact BitVec.getLsbD_of_ge _ _ h
  · exact BitVec.getLsbD_of_ge _ _ h

/-- Tests of other channels, or of the other kind, leave what a test reads. -/
theorem tested_reads {s t : State} {l : LineNo} {bytes : List Byte} {xs : List ChannelTest} (h : Tested s t l bytes xs)
    {x : ChannelTest} (hx : x.1 < 24) (hk : x.2.1 < 16) (hn : x ∉ xs) :
    suspectBit t l x = suspectBit s l x ∧ t.channelZone l x.1 x.2.1 = s.channelZone l x.1 x.2.1
    ∧ ∀ z, s.channelZone l x.1 x.2.1 = some z → t.zoneMarked x.2.2 z = s.zoneMarked x.2.2 z := by
  refine ⟨?_, channelZone_of_outside h.outside l _ _, fun z hz => ?_⟩
  · rw [h.suspects x hx hk, if_neg hn]
  · rcases Nat.lt_or_ge z 5184 with hlt | hge
    · rw [Bool.eq_iff_iff, h.marks _ z hlt]
      refine ⟨fun e => e.elim id fun ⟨y, hy, hkind, hc⟩ => ?_, Or.inl⟩
      obtain ⟨hp, hj⟩ := channelZone_inj (confirms_iff.1 hc).1 hz
      have same : y = x := Prod.ext hp (Prod.ext hj hkind)
      exact absurd (same ▸ hy) hn
    · rw [zoneMarked_of_ge t _ hge, zoneMarked_of_ge s _ hge]

theorem tested_results {s t : State} {l : LineNo} {bytes : List Byte} {xs : List ChannelTest} (h : Tested s t l bytes xs)
    {x : ChannelTest} (hx : x.1 < 24) (hk : x.2.1 < 16) (hn : x ∉ xs) :
    confirms t l bytes x = confirms s l bytes x ∧ suspectAfter t l bytes x = suspectAfter s l bytes x := by
  obtain ⟨bit, zone, marked⟩ := tested_reads h hx hk hn
  refine ⟨Option.ext fun z => ?_, ?_⟩
  · rw [confirms_iff, confirms_iff, bit, zone]
    exact and_congr_right fun hz => by rw [marked z hz]
  · unfold suspectAfter
    rw [zone, bit]
    rcases hz : s.channelZone l x.1 x.2.1 with _ | z
    · rfl
    · dsimp only
      rw [marked z hz]

/-- One more test. -/
theorem tested_snoc {s t u : State} {l : LineNo} {bytes : List Byte} {xs : List ChannelTest} (h : Tested s t l bytes xs)
    {x : ChannelTest} (hx : x.1 < 24) (hk : x.2.1 < 16) (hn : x ∉ xs) (g : Tested t u l bytes [x]) :
    Tested s u l bytes (xs ++ [x]) := by
  obtain ⟨conf, after⟩ := tested_results h hx hk hn
  refine ⟨outside_trans h.outside g.outside, fun m hm => (g.others m hm).trans (h.others m hm), ?_, fun y hy hyk => ?_,
    fun kind z hz => ?_, ?_, ?_⟩
  · rw [g.line, h.line]
  · rw [g.suspects y hy hyk]
    by_cases e : y = x
    · rw [if_pos (by rw [e]; exact List.mem_singleton_self x), if_pos (by rw [e]; simp), e, after]
    · rw [if_neg fun i => e (List.mem_singleton.1 i), h.suspects y hy hyk]
      exact if_congr (by simp [e]) rfl rfl
  · rw [g.marks kind z hz, h.marks kind z hz]
    simp only [List.mem_append, List.mem_singleton, or_and_right, exists_or, exists_eq_left, conf, or_assoc]
  · rw [g.setup, h.setup]
    simp only [List.mem_append, List.mem_singleton, or_and_right, exists_or, exists_eq_left, conf, or_assoc]
  · have told := told_trans h.told g.told (h.outside .ms (by decide))
    rw [List.filterMap_append]
    have last : ([x].filterMap fun x => (confirms t l bytes x).map (confirmEvent l x))
        = [x].filterMap fun x => (confirms s l bytes x).map (confirmEvent l x) := by
      simp only [List.filterMap_cons, conf, List.filterMap_nil]
    rw [← last]
    exact told

/-- Tests one after another, each of its own channel and kind. -/
theorem tested_foldl (s : State) (l : LineNo) (bytes : List Byte) (xs : List ChannelTest)
    (hb : ∀ x ∈ xs, x.1 < 24 ∧ x.2.1 < 16) (hn : xs.Nodup) :
    Tested s (xs.foldl (fun t x => t.testChannel l x.1 x.2.1 x.2.2 (reportedBit bytes x)) s) l bytes xs := by
  induction xs using List.reverseRecOn with
  | nil => exact tested_nil s l bytes
  | append_singleton xs x ih =>
    rw [List.foldl_append, List.foldl_cons, List.foldl_nil]
    obtain ⟨hx, hk⟩ := hb x (by simp)
    rw [List.nodup_append'] at hn
    obtain ⟨hxs, -, apart⟩ := hn
    exact tested_snoc (ih (fun y hy => hb y (List.mem_append_left _ hy)) hxs) hx hk
      (fun hi => apart hi (List.mem_singleton_self x)) (testChannel_tested _ l bytes hx hk)

/-- The tests of a return in the model's order: by position and channel, open before short. -/
def allTests (n : Nat) : List ChannelTest :=
  (List.range n).flatMap fun p => (List.range 16).flatMap fun k => [(p, k, .openString), (p, k, .shortString)]

theorem mem_allTests {n : Nat} {x : ChannelTest} : x ∈ allTests n ↔ x.1 < n ∧ x.2.1 < 16 := by
  obtain ⟨p, k, kind⟩ := x
  simp only [allTests, List.mem_flatMap, List.mem_range, List.mem_cons, List.not_mem_nil, or_false, Prod.mk.injEq]
  constructor
  · rintro ⟨q, hq, j, hj, h | h⟩
    · exact ⟨h.1 ▸ hq, h.2.1 ▸ hj⟩
    · exact ⟨h.1 ▸ hq, h.2.1 ▸ hj⟩
  · rintro ⟨hp, hk⟩
    refine ⟨p, hp, k, hk, ?_⟩
    cases kind <;> simp

theorem nodup_allTests (n : Nat) : (allTests n).Nodup := by
  refine List.nodup_flatMap.2 ⟨fun p _ => List.nodup_flatMap.2 ⟨fun k _ => by simp, ?_⟩, ?_⟩
  · refine (List.nodup_range (n := 16)).imp fun {i j} hne => ?_
    rintro x hi hj
    simp only [List.mem_cons, List.not_mem_nil, or_false] at hi hj
    rcases hi with rfl | rfl <;> simp_all
  · refine (List.nodup_range (n := n)).imp fun {i j} hne => ?_
    rintro x hi hj
    simp only [List.mem_flatMap, List.mem_range, List.mem_cons, List.not_mem_nil, or_false] at hi hj
    obtain ⟨k, -, rfl | rfl⟩ := hi <;> simp_all

theorem foldl_testPosition (l : LineNo) (bytes : List Byte) (n : Nat) (s : State) :
    (List.range n).foldl (fun u p => u.testPosition l (pollReport bytes p) p) s
      = (allTests n).foldl (fun t x => t.testChannel l x.1 x.2.1 x.2.2 (reportedBit bytes x)) s := by
  unfold allTests State.testPosition
  rw [List.foldl_flatMap]
  simp only [List.foldl_flatMap, List.foldl_cons, List.foldl_nil]
  rfl

/-! ### Hot flags and frame errors (R127, R128) -/

theorem channelsAt_bit {p q k : Nat} (hq : q < 24) (hk : k < 16) : (channelsAt p).getLsbD (16 * q + k) = decide (p = q) := by
  unfold channelsAt
  rw [BitVec.getLsbD_ofNat, Nat.testBit_mul_two_pow, show 0xFFFF = 2 ^ 16 - 1 by decide, Nat.testBit_two_pow_sub_one,
    decide_eq_true (by omega : 16 * q + k < 384), Bool.true_and, ← Bool.decide_and]
  exact decide_eq_decide.2 (by omega)

/-- Whether the report of position `p` changes its hot flag. -/
def hotChanges (s : State) (l : LineNo) (bytes : List Byte) (p : Nat) : Bool :=
  s.lines[l].hot.getLsbD p != (pollReport bytes p).overTemperature

/-- What the over-temperature reports of the positions below `n` have done (R127). -/
structure HotTested (s t : State) (l : LineNo) (bytes : List Byte) (n : Nat) : Prop where
  outside : Outside [.lines, .events, .accrued] s t
  others : ∀ m, m ≠ l → t.lines[m] = s.lines[m]
  line : t.lines[l]
    = { s.lines[l] with dirty := t.lines[l].dirty, latchOwed := t.lines[l].latchOwed, hot := t.lines[l].hot }
  hot : ∀ p, p < 24 →
    t.lines[l].hot.getLsbD p = if p < n then (pollReport bytes p).overTemperature else s.lines[l].hot.getLsbD p
  dirty : ∀ p k, p < 24 → k < 16 →
    (t.lines[l].dirty.getLsbD (16 * p + k) = true ↔
      s.lines[l].dirty.getLsbD (16 * p + k) = true ∨ (p < n ∧ hotChanges s l bytes p = true))
  latch : t.lines[l].latchOwed = true ↔ s.lines[l].latchOwed = true ∨ ∃ p, p < n ∧ hotChanges s l bytes p = true
  told : Told s t
    (((List.range n).filter fun p => (pollReport bytes p).overTemperature && !s.lines[l].hot.getLsbD p).map fun p =>
      (.driverHot, .line l, p))

/-- The line after the report of position `p` has changed its hot flag to `on`. -/
def hotLine (x : Line) (p : Nat) (on : Bool) : Line :=
  { x with
    hot := if on then x.hot ||| BitVec.twoPow 24 p else x.hot &&& ~~~(BitVec.twoPow 24 p)
    dirty := x.dirty ||| channelsAt p
    latchOwed := true }

theorem hotLine_bit (x : Line) {p q : Nat} (on : Bool) (hp : p < 24) (hq : q < 24) :
    (hotLine x p on).hot.getLsbD q = if q = p then on else x.hot.getLsbD q := by
  unfold hotLine
  dsimp only
  have bit : (BitVec.twoPow 24 p).getLsbD q = decide (q = p) := by
    rw [BitVec.getLsbD_twoPow, decide_eq_true hp, Bool.true_and]
    exact decide_eq_decide.2 eq_comm
  cases on
  · rw [if_neg (by decide), BitVec.getLsbD_and, BitVec.getLsbD_not, bit, decide_eq_true hq]
    by_cases h : q = p <;> simp [h]
  · rw [if_pos rfl, BitVec.getLsbD_or, bit]
    by_cases h : q = p <;> simp [h]

/-- The over-temperature test of one position (R127). -/
theorem testHot_lines (s : State) (l : LineNo) (bytes : List Byte) (p : Nat) (m : LineNo) :
    (s.testHot l p (pollReport bytes p).overTemperature).lines[m]
      = if m = l ∧ hotChanges s l bytes p = true then hotLine s.lines[l] p (pollReport bytes p).overTemperature
        else s.lines[m] := by
  unfold State.testHot hotChanges hotLine
  rcases (pollReport bytes p).overTemperature with _ | _ <;> rcases s.lines[l].hot.getLsbD p with _ | _
  · exact (if_neg fun h => by cases h.2).symm
  · simp only [State.markChannels, modifyLine_get, if_true]
    by_cases h : m = l <;> simp [h]
  · simp only [addEvent_lines, State.markChannels, modifyLine_get, if_true]
    by_cases h : m = l <;> simp [h]
  · exact (if_neg fun h => by cases h.2).symm

theorem testHot_told (s : State) (l : LineNo) (bytes : List Byte) (p : Nat) :
    Told s (s.testHot l p (pollReport bytes p).overTemperature)
      (if ((pollReport bytes p).overTemperature && !s.lines[l].hot.getLsbD p) = true then [(.driverHot, .line l, p)] else []) := by
  have marks (f : Line → Line) : Outside [.lines] s ((s.modifyLine l f).markChannels l (channelsAt p)) :=
    outside_step (outside_markChannels l _ _) (by decide) (outside_modifyLine l f s)
  unfold State.testHot
  rcases (pollReport bytes p).overTemperature with _ | _ <;> rcases s.lines[l].hot.getLsbD p with _ | _
  · exact told_nil rfl rfl
  · exact told_nil (marks _ .events (by decide)) (marks _ .accrued (by decide))
  · exact told_addEvent _ _ _ (marks _ .events (by decide)) (marks _ .ms (by decide)) (marks _ .accrued (by decide)) rfl rfl
  · exact told_nil rfl rfl

theorem outside_testHot' (s : State) (l : LineNo) (p : Nat) (on : Bool) :
    Outside [.lines, .events, .accrued] s (s.testHot l p on) := by
  have marks (f : Line → Line) : Outside [.lines, .events, .accrued] s ((s.modifyLine l f).markChannels l (channelsAt p)) :=
    outside_step (outside_markChannels l _ _) (by decide) (outside_mono (outside_modifyLine l f s) (by decide))
  unfold State.testHot
  split
  · exact outside_step (outside_addEvent _ _ _ _) (by decide) (marks _)
  · exact marks _
  · exact outside_refl _ s
  · exact outside_refl _ s

theorem hotTested (s : State) (l : LineNo) (bytes : List Byte) {n : Nat} (hn : n ≤ 24) :
    HotTested s ((List.range n).foldl (fun u p => u.testHot l p (pollReport bytes p).overTemperature) s) l bytes n := by
  induction n with
  | zero =>
    exact ⟨outside_refl _ s, fun _ _ => rfl, rfl, fun p _ => (if_neg (Nat.not_lt_zero p)).symm, fun p k _ _ => by simp, by simp,
      told_nil rfl rfl⟩
  | succ n ih =>
    have h := ih (by omega)
    rw [List.range_succ, List.foldl_append, List.foldl_cons, List.foldl_nil]
    generalize (List.range n).foldl (fun u p => u.testHot l p (pollReport bytes p).overTemperature) s = t at h ⊢
    have old : t.lines[l].hot.getLsbD n = s.lines[l].hot.getLsbD n := by
      rw [h.hot n (by omega), if_neg (Nat.lt_irrefl n)]
    have changes : hotChanges t l bytes n = hotChanges s l bytes n := by
      unfold hotChanges
      rw [old]
    have told := testHot_told t l bytes n
    have lines := testHot_lines t l bytes n
    have frame := outside_testHot' t l n (pollReport bytes n).overTemperature
    rw [old] at told
    simp only [changes] at lines
    generalize t.testHot l n (pollReport bytes n).overTemperature = u at *
    have line := lines l
    rw [if_congr (and_iff_right rfl) rfl rfl] at line
    have below (p : Nat) : p < n + 1 ↔ p < n ∨ p = n := Nat.lt_succ_iff_lt_or_eq
    refine ⟨outside_trans h.outside frame, fun m hm => ?_, ?_, fun p hp => ?_, fun p k hp hk => ?_, ?_, ?_⟩
    · rw [lines m, if_neg fun e => hm e.1, h.others m hm]
    · rw [line]
      split
      · unfold hotLine
        rw [h.line]
      · exact h.line
    · rw [line]
      by_cases hc : hotChanges s l bytes n = true
      · rw [if_pos hc, hotLine_bit _ _ (by omega) hp, h.hot p hp]
        by_cases e : p = n
        · rw [if_pos e, if_pos (by omega), e]
        · rw [if_neg e]
          exact if_congr (by omega) rfl rfl
      · rw [if_neg hc, h.hot p hp]
        by_cases e : p = n
        · have same : s.lines[l].hot.getLsbD n = (pollReport bytes n).overTemperature := by
            simpa [hotChanges] using hc
          rw [e, if_neg (Nat.lt_irrefl n), if_pos (Nat.lt_succ_self n), same]
        · exact if_congr (by omega) rfl rfl
    · rw [line, below]
      by_cases hc : hotChanges s l bytes n = true
      · rw [if_pos hc]
        show (t.lines[l].dirty ||| channelsAt n).getLsbD (16 * p + k) = true ↔ _
        rw [BitVec.getLsbD_or, Bool.or_eq_true, h.dirty p k hp hk, channelsAt_bit hp hk, decide_eq_true_iff, or_and_right, or_assoc]
        refine or_congr_right (or_congr_right ⟨fun e => ⟨e.symm, e ▸ hc⟩, fun e => e.1.symm⟩)
      · rw [if_neg hc, h.dirty p k hp hk]
        refine or_congr_right ⟨fun e => ⟨Or.inl e.1, e.2⟩, fun e => ⟨e.1.resolve_right ?_, e.2⟩⟩
        rintro rfl
        exact hc e.2
    · rw [line]
      simp only [below, or_and_right, exists_or, exists_eq_left]
      by_cases hc : hotChanges s l bytes n = true
      · rw [if_pos hc]
        exact ⟨fun _ => Or.inr (Or.inr hc), fun _ => rfl⟩
      · rw [if_neg hc, h.latch, or_iff_left hc]
    · have all := told_trans h.told told (h.outside .ms (by decide))
      have last : (if ((pollReport bytes n).overTemperature && !s.lines[l].hot.getLsbD n) = true then
            [((.driverHot, .line l, n) : EventKind × Subject × Nat)] else [])
          = ([n].filter fun p => (pollReport bytes p).overTemperature && !s.lines[l].hot.getLsbD p).map fun p =>
              (.driverHot, .line l, p) := by
        rw [List.filter_singleton]
        split
        · next e => rw [e]; rfl
        · next e => rw [Bool.eq_false_iff.2 e]; rfl
      rw [List.range_succ, List.filter_append, List.map_append, ← last]
      exact all

/-- What the frame errors of the positions below `n` have done (R128). -/
structure ErrorsTested (s t : State) (l : LineNo) (bytes : List Byte) (n : Nat) : Prop where
  outside : Outside [.lines] s t
  others : ∀ m, m ≠ l → t.lines[m] = s.lines[m]
  line : t.lines[l] = { s.lines[l] with dirty := t.lines[l].dirty, latchOwed := t.lines[l].latchOwed }
  dirty : ∀ p k, p < 24 → k < 16 →
    (t.lines[l].dirty.getLsbD (16 * p + k) = true ↔
      s.lines[l].dirty.getLsbD (16 * p + k) = true ∨ (p < n ∧ (pollReport bytes p).frameError = true))
  latch : t.lines[l].latchOwed = true ↔ s.lines[l].latchOwed = true ∨ ∃ p, p < n ∧ (pollReport bytes p).frameError = true

theorem errorsTested (s : State) (l : LineNo) (bytes : List Byte) (n : Nat) :
    ErrorsTested s ((List.range n).foldl (fun u p => u.testFrameError l p (pollReport bytes p).frameError) s) l bytes n := by
  induction n with
  | zero => exact ⟨outside_refl _ s, fun _ _ => rfl, rfl, fun p k _ _ => by simp, by simp⟩
  | succ n ih =>
    rw [List.range_succ, List.foldl_append, List.foldl_cons, List.foldl_nil]
    generalize (List.range n).foldl (fun u p => u.testFrameError l p (pollReport bytes p).frameError) s = t at ih ⊢
    have below (p : Nat) : p < n + 1 ↔ p < n ∨ p = n := Nat.lt_succ_iff_lt_or_eq
    by_cases hc : (pollReport bytes n).frameError = true
    · have lines (m : LineNo) : (t.testFrameError l n (pollReport bytes n).frameError).lines[m]
          = if m = l then { t.lines[l] with dirty := t.lines[l].dirty ||| channelsAt n, latchOwed := true } else t.lines[m] := by
        unfold State.testFrameError
        rw [if_pos hc]
        exact modifyLine_get l m _ t
      have line := (lines l).trans (if_pos rfl)
      refine ⟨outside_trans ih.outside (outside_testFrameError l n _ t), fun m hm => ?_, ?_, fun p k hp hk => ?_, ?_⟩
      · rw [lines m, if_neg hm, ih.others m hm]
      · rw [line, ih.line]
      · rw [line, below]
        show (t.lines[l].dirty ||| channelsAt n).getLsbD (16 * p + k) = true ↔ _
        rw [BitVec.getLsbD_or, Bool.or_eq_true, ih.dirty p k hp hk, channelsAt_bit hp hk, decide_eq_true_iff, or_and_right, or_assoc]
        refine or_congr_right (or_congr_right ⟨fun e => ⟨e.symm, e ▸ hc⟩, fun e => e.1.symm⟩)
      · rw [line]
        exact ⟨fun _ => Or.inr ⟨n, Nat.lt_succ_self n, hc⟩, fun _ => rfl⟩
    · have stays : t.testFrameError l n (pollReport bytes n).frameError = t := if_neg hc
      rw [stays]
      have drop (p : Nat) : p < n + 1 ∧ (pollReport bytes p).frameError = true
          ↔ p < n ∧ (pollReport bytes p).frameError = true := by
        rw [below]
        refine ⟨fun e => ⟨e.1.resolve_right ?_, e.2⟩, fun e => ⟨Or.inl e.1, e.2⟩⟩
        rintro rfl
        exact hc e.2
      exact ⟨ih.outside, ih.others, ih.line, fun p k hp hk => by rw [drop]; exact ih.dirty p k hp hk, by
        simp only [drop]; exact ih.latch⟩

/-! ### A whole return -/

theorem pollEvents_eq (s : State) (l : LineNo) (bytes : List Byte) :
    pollEvents s l bytes
      = ((allTests (s.driverCount l)).filterMap fun x => (confirms s l bytes x).map (confirmEvent l x))
        ++ ((List.range (s.driverCount l)).filter fun p =>
              (pollReport bytes p).overTemperature && !s.lines[l].hot.getLsbD p).map fun p => (.driverHot, .line l, p) := by
  unfold pollEvents allTests
  simp only [List.filterMap_flatMap]
  rfl

theorem driverCount_le (s : State) (l : LineNo) : s.driverCount l ≤ 24 := clampTo_le _ _ _ (by decide)

/-- The tests of a return read the same when the line is freed first. -/
theorem freed_reads (s : State) (l : LineNo) (bytes : List Byte) (x : ChannelTest) :
    suspectBit (s.modifyLine l freedLine) l x = suspectBit s l x
    ∧ confirms (s.modifyLine l freedLine) l bytes x = confirms s l bytes x
    ∧ suspectAfter (s.modifyLine l freedLine) l bytes x = suspectAfter s l bytes x := by
  have frame : Outside [.lines] s (s.modifyLine l freedLine) := outside_modifyLine l _ s
  have zone := channelZone_of_outside (outside_mono frame (by decide)) l x.1 x.2.1
  have marks := zoneMarked_congr (frame .faults (by decide)) x.2.2
  have bit : suspectBit (s.modifyLine l freedLine) l x = suspectBit s l x := by
    unfold suspectBit
    rw [modifyLine_get, if_pos rfl]
    cases x.2.2 <;> rfl
  refine ⟨bit, Option.ext fun z => ?_, ?_⟩
  · rw [confirms_iff, confirms_iff, bit, zone, marks]
  · unfold suspectAfter
    simp only [zone, bit, marks]

/-- Settles O30: the tests by `tested_foldl`, the hot flags by `hotTested`, the frame errors by `errorsTested`. -/
theorem pollReportsAreActedOn : Obligations.PollReportsAreActedOn := by
  intro s l f bytes hs hf hk hlen hhead hcrc n confirmed hotChanged resends
  have good : returnGood f bytes = true := by
    unfold returnGood
    rw [hk]
    simp only [hhead, hcrc, beq_self_eq_true, Bool.and_self]
  have run := exec_returnCheck hs hf hlen
  rw [if_pos good] at run
  have freed : Outside [.lines] s (s.modifyLine l freedLine) := outside_modifyLine l _ s
  have drivers : (s.modifyLine l freedLine).driverCount l = n := by
    show clampTo 0 24 (field (s.modifyLine l freedLine).tables.lineSetup[l] 0 1) = _
    rw [freed .tables (by decide)]
    rfl
  have acts : s.frameSucceeds l f bytes = (s.modifyLine l freedLine).actOnPoll l bytes := by
    unfold State.frameSucceeds
    rw [hk]
  rw [acts, State.actOnPoll, drivers, foldl_testPosition] at run
  have line0 : (s.modifyLine l freedLine).lines[l] = freedLine s.lines[l] := (modifyLine_get l l _ s).trans (if_pos rfl)
  have others0 (m : LineNo) (hm : m ≠ l) : (s.modifyLine l freedLine).lines[m] = s.lines[m] :=
    (modifyLine_get l m _ s).trans (if_neg hm)
  have reads := freed_reads s l bytes
  have marks0 := zoneMarked_congr (freed .faults (by decide))
  have bound : n ≤ 24 := driverCount_le s l
  have tests := tested_foldl (s.modifyLine l freedLine) l bytes (allTests n)
    (fun x hx => ⟨(mem_allTests.1 hx).1.trans_le bound, (mem_allTests.1 hx).2⟩) (nodup_allTests n)
  generalize s.modifyLine l freedLine = s0 at *
  generalize (allTests n).foldl (fun t x => t.testChannel l x.1 x.2.1 x.2.2 (reportedBit bytes x)) s0 = t1 at *
  have hots := hotTested t1 l bytes bound
  generalize (List.range n).foldl (fun u p => u.testHot l p (pollReport bytes p).overTemperature) t1 = t2 at *
  have errors := errorsTested t2 l bytes n
  generalize (List.range n).foldl (fun u p => u.testFrameError l p (pollReport bytes p).frameError) t2 = t at *
  have hot1 : t1.lines[l].hot = s.lines[l].hot := by rw [tests.line, line0]
  have dirty1 : t1.lines[l].dirty = s.lines[l].dirty := by rw [tests.line, line0]
  have latch1 : t1.lines[l].latchOwed = s.lines[l].latchOwed := by rw [tests.line, line0]
  have changes (p : Nat) : hotChanges t1 l bytes p = hotChanged p := by
    unfold hotChanges
    rw [hot1]
  have hot2 : t.lines[l].hot = t2.lines[l].hot := by rw [errors.line]
  have setup2 : t.lines[l].setupOwed = t1.lines[l].setupOwed := by rw [errors.line, hots.line]
  have suspects2 (x : ChannelTest) : suspectBit t l x = suspectBit t1 l x := by
    unfold suspectBit
    rw [errors.line, hots.line]
    cases x.2.2 <;> rfl
  have faults2 : t.faults = t1.faults := (errors.outside .faults (by decide)).trans (hots.outside .faults (by decide))
  have conf (kind : FaultKind) (z : Nat) :
      (∃ x ∈ allTests n, x.2.2 = kind ∧ confirms s0 l bytes x = some z) ↔ confirmed kind z := by
    constructor
    · rintro ⟨x, hx, rfl, hc⟩
      rw [(reads x).2.1] at hc
      exact ⟨x.1, x.2.1, (mem_allTests.1 hx).1, (mem_allTests.1 hx).2, hc⟩
    · rintro ⟨p, k, hp, hk, hc⟩
      refine ⟨(p, k, kind), mem_allTests.2 ⟨hp, hk⟩, rfl, ?_⟩
      rw [(reads _).2.1]
      exact hc
  have told1 : Told s t (pollEvents s l bytes) := by
    have both := told_trans tests.told hots.told (tests.outside .ms (by decide))
    have events : ((allTests n).filterMap fun x => (confirms s0 l bytes x).map (confirmEvent l x))
        = (allTests n).filterMap fun x => (confirms s l bytes x).map (confirmEvent l x) :=
      List.filterMap_congr fun x _ => by rw [(reads x).2.1]
    rw [events, hot1] at both
    have start : Told s s0 [] := told_nil (freed .events (by decide)) (freed .accrued (by decide))
    have finish : Told t2 t [] := told_nil (errors.outside .events (by decide)) (errors.outside .accrued (by decide))
    have ms2 : t2.ms = s.ms :=
      (hots.outside .ms (by decide)).trans ((tests.outside .ms (by decide)).trans (freed .ms (by decide)))
    have all := told_trans (told_trans start both (freed .ms (by decide))) finish ms2
    rw [List.append_nil] at all
    rw [pollEvents_eq]
    exact all
  refine ⟨t, run, fun m hm => ?_, ?_, fun p k kind hp hk' => ?_, fun kind z hz => ?_, ?_, fun p hp => ?_,
    fun p k hp hk' => ?_, ?_, told1.events, told1.flags, ?_⟩
  · rw [errors.others m hm, hots.others m hm, tests.others m hm, others0 m hm]
  · rw [errors.line, hots.line, tests.line, line0]
  · have bit := (suspects2 (p, k, kind)).trans (tests.suspects (p, k, kind) hp hk')
    rw [(reads _).1, (reads _).2.2] at bit
    refine Eq.trans bit ?_
    rw [if_congr (mem_allTests.trans (and_iff_left hk')) rfl rfl]
    unfold suspectAfter
    dsimp only
    rcases s.channelZone l p k with _ | z
    · exact ite_self _
    · dsimp only
      rw [← ite_and]
      cases kind
      · rfl
      · rfl
  · rw [zoneMarked_congr faults2, tests.marks kind z hz, conf, marks0]
  · rw [setup2, tests.setup, line0]
    refine or_congr_right ⟨?_, ?_⟩
    · rintro ⟨x, hx, z, hc⟩
      exact ⟨x.2.2, z, (conf _ z).1 ⟨x, hx, rfl, hc⟩⟩
    · rintro ⟨kind, z, hc⟩
      obtain ⟨x, hx, -, hc⟩ := (conf kind z).2 hc
      exact ⟨x, hx, z, hc⟩
  · rw [hot2, hots.hot p hp, hot1]
  · rw [errors.dirty p k hp hk', hots.dirty p k hp hk', dirty1, changes, or_assoc, ← and_or_left]
  · rw [errors.latch, hots.latch, latch1]
    simp only [changes, or_assoc, ← exists_or, ← and_or_left]
    rfl
  · exact outside_step errors.outside (by decide) (outside_step hots.outside (by decide)
      (outside_step tests.outside (by decide) (outside_mono freed (by decide))))

end Sys2Proof.Laws
end

section
/-! SUPPORT. Requests of several beats (R6, R7, R25): no hand-off reads or changes the Link Path, and the marks of a WRITE say
which windows it has counted into. -/

namespace Sys2Proof.Laws

-- Each proof may wait for an earlier one; run one after another they need no thread each.
set_option Elab.async false

open Sys2Proof Sys2Proof.Machine Sys2Proof.Safety

/-! ### Operations that neither read nor change the Link Path -/

/-- The state with another Link Path. -/
def withLink (k : LinkPath) (s : State) : State := { s with link := k }

/-- The operation does the same whatever the Link Path, and keeps it. -/
def LinkFree (f : State → State) : Prop := ∀ k s, f (withLink k s) = withLink k (f s)

theorem linkFree_comp {f g : State → State} (hf : LinkFree f) (hg : LinkFree g) : LinkFree fun s => f (g s) := fun k s => by
  show f (g (withLink k s)) = withLink k (f (g s))
  rw [hg, hf]

theorem linkFree_foldl {α : Type} {f : State → α → State} (h : ∀ a, LinkFree fun s => f s a) (as : List α) :
    LinkFree fun s => as.foldl f s := fun k s => by
  induction as generalizing s with
  | nil => rfl
  | cons a as ih =>
    exact (congrArg (fun t => as.foldl f t) (h a k s)).trans (ih (f s a))

/-- A choice that the Link Path has no part in. -/
theorem linkFree_ite {c : State → Prop} [DecidablePred c] {f g : State → State} (hc : ∀ k s, c (withLink k s) ↔ c s)
    (hf : LinkFree f) (hg : LinkFree g) : LinkFree fun s => if c s then f s else g s := fun k s => by
  show (if c (withLink k s) then f (withLink k s) else g (withLink k s)) = withLink k (if c s then f s else g s)
  by_cases h : c s
  · rw [if_pos ((hc k s).2 h), if_pos h, hf]
  · rw [if_neg (mt (hc k s).1 h), if_neg h, hg]

theorem linkFree_setFlagIf (c : Bool) (f : Flag) : LinkFree (State.setFlagIf c f) := fun k s => by
  cases c <;> rfl

theorem linkFree_addEvent (e : EventKind) (x : Subject) (d : Nat) : LinkFree (State.addEvent e x d) := fun k s => by
  unfold State.addEvent
  dsimp only
  rw [linkFree_setFlagIf]
  rfl

theorem linkFree_markZone (z : Nat) : LinkFree (State.markZone z) := fun k s => by
  have same : (withLink k s).zoneChannel z = s.zoneChannel z := rfl
  unfold State.markZone
  rw [same]
  cases s.zoneChannel z <;> rfl

theorem linkFree_writeDrive (z : Nat) (e : DriveEntry) : LinkFree (State.writeDrive z e) :=
  linkFree_ite (c := fun s => (s.drive.get z).duty ≠ e.duty) (fun _ _ => Iff.rfl)
    (linkFree_comp (linkFree_markZone z) (g := fun s => { s with drive := s.drive.set z e }) fun _ _ => rfl) fun _ _ => rfl

theorem linkFree_commitRows (n : SlotNo) (lo hi : Nat) : LinkFree (State.commitRows n lo hi) := fun k s => by
  rw [commitRows_eq, commitRows_eq]
  exact linkFree_foldl (fun z => linkFree_writeDrive z (s.results[n].entry z)) _ k s

theorem linkFree_flushScan : LinkFree State.flushScan := fun k s => by
  unfold State.flushScan
  have pointer : (withLink k s).scan = s.scan := rfl
  rw [pointer]
  rcases s.scan.pointer with _ | w
  · rfl
  · rcases s.scan.result with _ | n
    · rfl
    · exact linkFree_commitRows n _ _ k s

theorem linkFree_leaveFallback (w : WindowNo) (n : SlotNo) : LinkFree (State.leaveFallback w n) := fun k s => by
  unfold State.leaveFallback
  have same : (withLink k s).scan = s.scan := rfl
  rw [same]
  cases s.scan.fallback with
  | normal => rfl
  | fallback => exact linkFree_addEvent _ _ _ k { s with scan := { s.scan with fallback := .normal } }

theorem linkFree_commitOrHold (w : WindowNo) : LinkFree (State.commitOrHold w) := fun k s => by
  have same : (withLink k s).scan = s.scan := rfl
  unfold State.commitOrHold
  rw [same]
  rcases s.scan.result with _ | n
  · exact linkFree_setFlagIf _ .late k (s.setFlag .hold)
  · dsimp only
    rw [linkFree_commitRows]
    exact linkFree_leaveFallback w n k
      { s.commitRows n 0 s.scan.passed with
        scan := { (s.commitRows n 0 s.scan.passed).scan with committed := s.scan.passed } }

theorem linkFree_releaseTripOf (m : ReleaseMode) : LinkFree (State.releaseTripOf m) := fun k s => by
  have same : (withLink k s).protection = s.protection := rfl
  unfold State.releaseTripOf State.releaseTrip
  rw [same]
  rcases s.protection.trip with _ | q
  · rfl
  · dsimp only
    split
    · exact linkFree_addEvent _ _ _ k { s with protection := { s.protection with trip := none, filterCount := 0 } }
    · rfl

theorem linkFree_scanStart (w : WindowNo) (y : Nat) : LinkFree (State.scanStart w y) := fun k s => by
  have replace (u : State) : State.replaceScan w y (withLink k u) = withLink k (u.replaceScan w y) := rfl
  have restart (u : State) : (withLink k u).restartSupervision = withLink k u.restartSupervision := rfl
  unfold State.scanStart
  rw [linkFree_flushScan, replace, linkFree_commitOrHold, restart, linkFree_releaseTripOf]

theorem linkFree_advance (w : WindowNo) (y : Nat) : LinkFree (State.advance w y) := fun k s => by
  have same : (withLink k s).scan = s.scan := rfl
  unfold State.advance
  rw [same]
  dsimp only
  rcases s.scan.result with _ | n
  · rfl
  · dsimp only
    rw [linkFree_commitRows]
    rfl

theorem linkFree_scanBeat (w : WindowNo) (y : Nat) : LinkFree (State.scanBeat w y) :=
  linkFree_ite (c := fun s => s.isScanStart w y = true) (fun _ _ => Iff.rfl) (linkFree_scanStart w y)
    (linkFree_ite (c := fun s => s.scan.pointer = some w) (g := fun s => s) (fun _ _ => Iff.rfl) (linkFree_advance w y)
      fun _ _ => rfl)

theorem linkFree_handRead (c : ReadClass) : LinkFree (State.handRead c) := fun k s => by
  unfold State.handRead
  rcases c.window with _ | w
  · rfl
  · exact linkFree_ite (c := fun _ => c.scanMatch = true) (g := fun s => s) (fun _ _ => Iff.rfl) (linkFree_scanBeat w c.line) (fun _ _ => rfl) k s

theorem linkFree_claimBank (w : WindowNo) : LinkFree (State.claimBank w) := fun k s => by
  rw [claimBank_eq, claimBank_eq]
  rfl

theorem linkFree_beginCounting (w : WindowNo) : LinkFree (State.beginCounting w) := fun k s => by
  have same : (withLink k s).buffers = s.buffers := rfl
  have tears : (withLink k s).tears w = s.tears w := rfl
  unfold State.beginCounting
  rw [same, tears]
  rcases s.buffers[w].state with _ | _ | j | _ | j | j | j | j
  case ready => 
    dsimp only
    rw [linkFree_setFlagIf]
    exact linkFree_claimBank w k ((s.setFlagIf (s.tears w) .tear).setFlag .dropped)
  case shown =>
    dsimp only
    rw [linkFree_setFlagIf]
    exact linkFree_claimBank w k (s.setFlagIf (s.tears w) .tear)
  case idle => exact linkFree_claimBank w k s
  all_goals rfl

theorem linkFree_countBeat (c : WriteClass) : LinkFree (State.countBeat c) := fun k s => by
  have same : (withLink k s).buffers = s.buffers := rfl
  unfold State.countBeat
  rw [same]
  dsimp only
  rcases s.buffers[c.window].state with _ | _ | j | _ | j | j | j | j
  case filling =>
    dsimp only
    by_cases h : s.windows[c.window].area ≤ s.buffers[c.window].written + c.wholeWords.length
    · rw [if_pos (by exact h), if_pos h]
      rfl
    · rw [if_neg (by exact h), if_neg h]
      rfl
  case blind =>
    dsimp only
    by_cases h : s.windows[c.window].area ≤ s.buffers[c.window].written + c.wholeWords.length
    · rw [if_pos (by exact h), if_pos h]
      rfl
    · rw [if_neg (by exact h), if_neg h]
      rfl
  all_goals rfl

/-- The hand-off of a write beat does the same whatever the Link Path, and keeps it. -/
def HandFree (f : State → RequestMarks × State) : Prop := ∀ k s, f (withLink k s) = ((f s).1, withLink k (f s).2)

theorem handFree_writeBeat (c : WriteClass) (m : RequestMarks) : HandFree (State.writeBeat c m) := fun k s => by
  unfold State.writeBeat
  by_cases hp : c.writerPass = true
  · rw [if_pos hp, if_pos hp, linkFree_setFlagIf]
    dsimp only
    by_cases hn : c.wholeWords = [] ∨ c.window ∈ m.finished
    · rw [if_pos hn, if_pos hn]
    · rw [if_neg hn, if_neg hn]
      by_cases hb : c.window ∈ m.begun
      · rw [if_pos hb, if_pos hb, linkFree_countBeat]
        rfl
      · rw [if_neg hb, if_neg hb, linkFree_beginCounting, linkFree_countBeat]
        rfl
  · rw [if_neg hp, if_neg hp]

theorem handFree_handWrite (id : BitVec 6) (a : Nat) (b : WriteBeat) (m : RequestMarks) :
    HandFree (State.handWrite id a b m) := fun k s => by
  have same : (withLink k s).locate a = s.locate a := rfl
  rcases hp : s.locate a with o | ⟨w, y, x0, n⟩ | _
  · rw [handWrite_control (same.trans hp), handWrite_control hp]
    have capture : (withLink k s).captureBeat o b = withLink k (s.captureBeat o b) := by
      unfold State.captureBeat
      split <;> rfl
    rw [capture]
  · rw [handWrite_window (same.trans hp), handWrite_window hp]
    exact handFree_writeBeat _ m k s
  · rw [handWrite_unclassified (same.trans hp), handWrite_unclassified hp]

/-! ### The beats of a WRITE (R6, R25) -/

/-- The hand-off of the beats of a WRITE, with the marks they leave. -/
def handAll (r : Request) : List WriteBeat → Nat → RequestMarks → State → RequestMarks × State
  | [], _, m, s => (m, s)
  | b :: rest, k, m, s =>
    let q := s.handWrite r.requester (r.beatAddress k).toNat b m
    handAll r rest (k + 1) q.1 q.2

theorem handAll_state (r : Request) (bs : List WriteBeat) (k : Nat) (m : RequestMarks) (s : State) :
    (handAll r bs k m s).2 = s.handWrites r bs k m := by
  induction bs generalizing k m s with
  | nil => rfl
  | cons b rest ih => exact ih _ _ _

theorem handAll_append (r : Request) (bs : List WriteBeat) (b : WriteBeat) (k : Nat) (m : RequestMarks) (s : State) :
    handAll r (bs ++ [b]) k m s
      = (handAll r bs k m s).2.handWrite r.requester (r.beatAddress (k + bs.length)).toNat b (handAll r bs k m s).1 := by
  induction bs generalizing k m s with
  | nil => rfl
  | cons a rest ih =>
    refine (ih (k + 1) _ _).trans ?_
    rw [List.length_cons, show k + 1 + rest.length = k + (rest.length + 1) by omega]
    rfl

/-- Only the requester and the addresses of a request matter for the hand-off. -/
theorem handAll_body (r : Request) (x : Body) (bs : List WriteBeat) (k : Nat) (m : RequestMarks) (s : State) :
    handAll { r with body := x } bs k m s = handAll r bs k m s := by
  induction bs generalizing k m s with
  | nil => rfl
  | cons b rest ih => exact ih _ _ _

theorem handFree_handAll (r : Request) (bs : List WriteBeat) (k : Nat) (m : RequestMarks) : HandFree (handAll r bs k m) :=
  fun x s => by
    induction bs generalizing k m s with
    | nil => rfl
    | cons b rest ih =>
      have one := handFree_handWrite r.requester (r.beatAddress k).toNat b m x s
      unfold handAll
      dsimp only
      rw [one]
      exact ih _ _ _

/-- The address map: where each address lies, under which filters. -/
theorem locate_of_outside {ps : List Piece} {s t : State} (h : Outside ps s t) (hc : Piece.cfg ∉ ps := by decide)
    (hw : Piece.windows ∉ ps := by decide) (a : Nat) : t.locate a = s.locate a := by
  unfold State.locate State.controlBase
  rw [h .cfg hc, h .windows hw]

/-- A beat at address `a` that a counting write of window `w` counts (R25). -/
def BeatCounts (s : State) (id : BitVec 6) (a : Nat) (b : WriteBeat) (w : WindowNo) : Prop :=
  ∃ y x0 n, s.locate a = .window w y x0 n
    ∧ filterPasses id s.windows[w].writerMatch s.windows[w].writerMask = true ∧ wholePixels b n ≠ []

theorem beatCounts_of_outside {ps : List Piece} {s t : State} (h : Outside ps s t) (hc : Piece.cfg ∉ ps := by decide)
    (hw : Piece.windows ∉ ps := by decide) (id : BitVec 6) (a : Nat) (b : WriteBeat) (w : WindowNo) :
    BeatCounts t id a b w ↔ BeatCounts s id a b w := by
  unfold BeatCounts
  rw [locate_of_outside h hc hw, h .windows hw]

/-- The marks of a request agree with the buffers: a frame is finished when its window has begun and counts no more (R25). -/
def MarksAgree (m : RequestMarks) (s : State) : Prop :=
  ∀ w, w ∈ m.finished ↔ w ∈ m.begun ∧ s.buffers[w].state.counting = false

theorem countBeat_others {s : State} {c : WriteClass} {v : WindowNo} (h : v ≠ c.window) :
    (s.countBeat c).buffers[v] = s.buffers[v] := by
  rcases hs : s.buffers[c.window].state with _ | _ | k | _ | k | k | k | k
  case filling =>
    obtain ⟨buffers, -⟩ := countBeat_filling_spec hs
    rw [buffers, buffers_set_get, if_neg h]
  case blind =>
    obtain ⟨buffers, -⟩ := countBeat_blind_spec hs
    rw [buffers, buffers_set_get, if_neg h]
  all_goals rw [countBeat_other (by rw [hs]; rfl)]

theorem beginCounting_others {s : State} {w v : WindowNo} (h : v ≠ w) :
    (s.beginCounting w).buffers[v] = s.buffers[v] := by
  by_cases hd : s.buffers[w].state = .disabled
  · have same : s.beginCounting w = s := by
      unfold State.beginCounting
      rw [hd]
    rw [same]
  · rw [(beginCounting_spec s w hd).buffers, buffers_set_get, if_neg h]

/-- A beat in a window: what it does to the marks (R25). -/
theorem writeBeat_marks {c : WriteClass} {m : RequestMarks} {s : State} (h : MarksAgree m s) :
    (∀ w, w ∈ (s.writeBeat c m).1.begun ↔ w ∈ m.begun ∨ (w = c.window ∧ c.writerPass = true ∧ c.wholeWords ≠ []))
    ∧ MarksAgree (s.writeBeat c m).1 (s.writeBeat c m).2 := by
  rcases hp : c.writerPass with _ | _
  · rw [writeBeat_filtered hp]
    exact ⟨fun w => by simp, h⟩
  · by_cases hn : c.wholeWords = [] ∨ c.window ∈ m.finished
    · rw [writeBeat_ignored hp hn]
      refine ⟨fun w => ⟨Or.inl, fun e => e.elim id fun ⟨hw, _, hne⟩ => ?_⟩, fun w => ?_⟩
      · rw [hw]
        exact ((h c.window).1 (hn.resolve_left hne)).1
      · rw [outside_setFlagIf _ _ s .buffers (by decide)]
        exact h w
    · obtain ⟨whole, open'⟩ := not_or.1 hn
      obtain ⟨t, ht, others⟩ : ∃ t, s.writeBeat c m
            = ({ begun := c.window :: m.begun
                 finished := if t.buffers[c.window].state.counting then m.finished else c.window :: m.finished }, t)
          ∧ ∀ v, v ≠ c.window → t.buffers[v] = s.buffers[v] := by
        unfold State.writeBeat
        rw [if_pos hp]
        dsimp only
        rw [if_neg hn]
        refine ⟨_, rfl, fun v hv => ?_⟩
        rw [countBeat_others hv]
        have flagged := outside_setFlagIf c.hasPartial .partialPixel s
        by_cases hb : c.window ∈ m.begun
        · rw [if_pos hb]
          exact congrArg (fun x : Vector Buffer 4 => x[v]) (flagged .buffers (by decide))
        · rw [if_neg hb, beginCounting_others hv]
          exact congrArg (fun x : Vector Buffer 4 => x[v]) (flagged .buffers (by decide))
      rw [ht]
      refine ⟨fun w => ?_, fun w => ?_⟩
      · rw [List.mem_cons, or_comm]
        exact or_congr_right (and_iff_left ⟨rfl, whole⟩).symm
      · dsimp only
        by_cases hw : w = c.window
        · subst hw
          rcases t.buffers[c.window].state.counting with _ | _
          · simp
          · simp [open']
        · rw [others w hw, List.mem_cons, or_iff_right hw, ← h w]
          split
          · rfl
          · rw [List.mem_cons, or_iff_right hw]

theorem handWrite_marks {id : BitVec 6} {a : Nat} {b : WriteBeat} {m : RequestMarks} {s : State} (h : MarksAgree m s) :
    (∀ w, w ∈ (s.handWrite id a b m).1.begun ↔ w ∈ m.begun ∨ BeatCounts s id a b w)
    ∧ MarksAgree (s.handWrite id a b m).1 (s.handWrite id a b m).2 := by
  rcases hp : s.locate a with o | ⟨w, y, x0, n⟩ | _
  · rw [handWrite_control hp]
    refine ⟨fun v => (or_iff_left ?_).symm, fun v => ?_⟩
    · rintro ⟨_, _, _, e, -⟩
      rw [hp] at e
      cases e
    · rw [outside_captureBeat o b s .buffers (by decide)]
      exact h v
  · rw [handWrite_window hp]
    obtain ⟨begun, agree⟩ := writeBeat_marks (c := writeClass s id w y x0 n b) h
    refine ⟨fun v => (begun v).trans (or_congr_right ?_), agree⟩
    rw [wholeWords_eq]
    constructor
    · rintro ⟨rfl, filter, whole⟩
      exact ⟨y, x0, n, hp, filter, whole⟩
    · rintro ⟨_, _, _, e, filter, whole⟩
      rw [hp] at e
      cases e
      exact ⟨rfl, filter, whole⟩
  · rw [handWrite_unclassified hp]
    refine ⟨fun v => (or_iff_left ?_).symm, h⟩
    rintro ⟨_, _, _, e, -⟩
    rw [hp] at e
    cases e

/-- The beats of a request, from none on: a window has begun when a beat has counted into it, and the marks agree (R25). -/
theorem handAll_marks (r : Request) (bs : List WriteBeat) (s : State) :
    (∀ w, w ∈ (handAll r bs 0 noMarks s).1.begun ↔
      ∃ k b, bs[k]? = some b ∧ BeatCounts s r.requester (r.beatAddress k).toNat b w)
    ∧ MarksAgree (handAll r bs 0 noMarks s).1 (handAll r bs 0 noMarks s).2 := by
  induction bs using List.reverseRecOn with
  | nil => exact ⟨fun w => by simp [handAll], fun w => by simp [handAll]⟩
  | append_singleton bs b ih =>
    obtain ⟨begun, agree⟩ := ih
    have frame : Outside writePieces s (handAll r bs 0 noMarks s).2 := by
      rw [handAll_state]
      exact outside_handWrites r bs 0 noMarks s
    rw [handAll_append]
    obtain ⟨next, agree'⟩ := handWrite_marks (id := r.requester) (a := (r.beatAddress (0 + bs.length)).toNat) (b := b) agree
    refine ⟨fun w => (next w).trans ?_, agree'⟩
    rw [begun w, beatCounts_of_outside frame, Nat.zero_add]
    constructor
    · rintro (⟨k, x, hk, hx⟩ | hb)
      · exact ⟨k, x, List.getElem?_append_left (List.getElem?_eq_some_iff.1 hk).1 ▸ hk, hx⟩
      · exact ⟨bs.length, b, List.getElem?_concat_length, hb⟩
    · rintro ⟨k, x, hk, hx⟩
      rcases Nat.lt_or_ge k bs.length with h | h
      · rw [List.getElem?_append_left h] at hk
        exact Or.inl ⟨k, x, hk, hx⟩
      · rw [List.getElem?_append_right h] at hk
        obtain ⟨hz, hb⟩ := List.getElem?_eq_some_iff.1 hk
        have last : k = bs.length := by
          simp only [List.length_singleton] at hz
          omega
        have same : x = b := by rw [← hb]; simp
        rw [last, same] at hx
        exact Or.inr hx

/-! ### Requests received -/

theorem exec_read_withLink {s : State} {r : Request} {n : Nat} (hr : received s r) (hb : r.body = .read n) :
    exec (.requestReceived r) s
      = .next (((List.range n).map fun k => s.readClass r.requester (r.beatAddress k).toNat).foldl (fun t c => t.handRead c)
          (withLink (joined s r) s)) := by
  rw [exec_received hr]
  refine congrArg Host.Outcome.next ?_
  have classes : s.classesOf r = (List.range n).map fun k => s.readClass r.requester (r.beatAddress k).toNat := by
    unfold State.classesOf
    rw [hb]
  unfold State.receive
  rw [hb, enqueue_eq, classes]
  rfl

theorem exec_write_withLink {s : State} {r : Request} {bs : List WriteBeat} (hr : received s r) (hb : r.body = .write bs) :
    exec (.requestReceived r) s = .next (handAll r bs 0 noMarks (withLink (joined s r) s)).2 := by
  rw [exec_received hr, handAll_state]
  refine congrArg Host.Outcome.next ?_
  unfold State.receive
  rw [hb, enqueue_eq]
  rfl

/-- The reads and writes of an earlier part of a request are received as well. -/
theorem received_part {s : State} {r : Request} (hr : received s r) {x : Body}
    (h1 : 1 ≤ ({ r with body := x } : Request).beatCount) (h8 : ({ r with body := x } : Request).beatCount ≤ 8) :
    received s { r with body := x } := by
  obtain ⟨live, up, credits, -, -, aligned⟩ := hr
  exact ⟨live, up, credits, h1, h8, aligned⟩

/-- A single beat of a request is received as a request of its own, in a state with the same Link Path. -/
theorem received_beat {ps : List Piece} {s t : State} {r : Request} (hr : received s r) (ho : Outside ps s t)
    (hp : Piece.resetAsserted ∉ ps) (k : Nat) {x : Body}
    (h1 : ({ r with address := r.beatAddress k, body := x } : Request).beatCount = 1) :
    received (withLink s.link t) { r with address := r.beatAddress k, body := x } := by
  obtain ⟨live, up, credits, -, -, aligned⟩ := hr
  refine ⟨(ho .resetAsserted hp).trans live, up, credits, Nat.le_of_eq h1.symm, h1.le.trans (by decide), ?_⟩
  show (r.address + BitVec.ofNat 32 (32 * k)).toNat % 32 = 0
  rw [BitVec.toNat_add, BitVec.toNat_ofNat]
  omega

theorem readClass_of_outside {ps : List Piece} {s t : State} (h : Outside ps s t) (hc : Piece.cfg ∉ ps := by decide)
    (hw : Piece.windows ∉ ps := by decide) (id : BitVec 6) (a : Nat) : t.readClass id a = s.readClass id a := by
  unfold State.readClass
  rw [locate_of_outside h hc hw, h .windows hw]

/-- The last beat of a READ acts on what the earlier ones left (R7). -/
theorem read_last_beat {s t' : State} {r : Request} {n : Nat} (hr : received s r) (hb : r.body = .read (n + 1)) (hn : 1 ≤ n)
    (he : exec (.requestReceived { r with body := .read n }) s = .next t') :
    ∃ u, exec (.requestReceived { r with address := r.beatAddress n, body := .read 1 }) (withLink s.link t') = .next u
      ∧ exec (.requestReceived r) s = .next (withLink (joined s r) u) := by
  have count : n + 1 ≤ 8 := by
    have h8 := hr.2.2.2.2.1
    unfold Request.beatCount at h8
    rw [hb] at h8
    exact h8
  have part : received s { r with body := .read n } := received_part hr hn (by show n ≤ 8; omega)
  rw [exec_read_withLink part rfl] at he
  have frame : Outside requestPieces s t' := by
    cases he
    exact outside_step (outside_handReads _ _) (by decide) (outside_mono (outside_link s _) (by decide))
  have single : received (withLink s.link t') { r with address := r.beatAddress n, body := .read 1 } :=
    received_beat hr frame (by decide) n rfl
  have last : (withLink s.link t').readClass r.requester (r.beatAddress n).toNat
      = s.readClass r.requester (r.beatAddress n).toNat :=
    readClass_of_outside (outside_step (outside_link t' _) (by decide) frame) (by decide) (by decide) _ _
  refine ⟨_, exec_read_one single rfl, ?_⟩
  rw [exec_read_withLink hr hb, List.range_succ, List.map_append, List.foldl_append]
  refine congrArg Host.Outcome.next ?_
  have earlier := linkFree_foldl (fun c => linkFree_handRead c)
    ((List.range n).map fun k => s.readClass r.requester (r.beatAddress k).toNat)
  have moved : ((List.range n).map fun k => s.readClass r.requester (r.beatAddress k).toNat).foldl (fun t c => t.handRead c)
      (withLink (joined s r) s) = withLink (joined s r) t' := by
    cases he
    rw [show withLink (joined s r) s = withLink (joined s r) (withLink (joined s { r with body := .read n }) s) from rfl]
    exact earlier _ _
  rw [moved]
  show State.handRead (s.readClass r.requester (r.beatAddress n).toNat) (withLink (joined s r) t') = _
  rw [last, linkFree_handRead]
  exact (congrArg (withLink (joined s r)) (linkFree_handRead (s.readClass r.requester (r.beatAddress n).toNat)
    (joined (withLink s.link t') { r with address := r.beatAddress n, body := .read 1 }) t')).symm

/-- The last beat of a WRITE in terms of the state and the marks that the earlier ones left. -/
theorem write_last_beat {s t' : State} {r : Request} {bs : List WriteBeat} {b : WriteBeat} (hr : received s r)
    (hb : r.body = .write (bs ++ [b])) (hne : bs ≠ [])
    (he : exec (.requestReceived { r with body := .write bs }) s = .next t') :
    ∃ m, MarksAgree m t'
      ∧ (∀ w, w ∈ m.begun ↔ ∃ k b', bs[k]? = some b' ∧ BeatCounts s r.requester (r.beatAddress k).toNat b' w)
      ∧ Outside [.link, .buffers, .queue, .banks, .engine, .ring, .accrued] s t'
      ∧ exec (.requestReceived r) s
          = .next (withLink (joined s r) (t'.handWrite r.requester (r.beatAddress bs.length).toNat b m).2) := by
  have count : bs.length + 1 ≤ 8 := by
    have h8 := hr.2.2.2.2.1
    unfold Request.beatCount at h8
    rw [hb] at h8
    simpa using h8
  have part : received s { r with body := .write bs } :=
    received_part hr (List.length_pos_iff.2 hne) (by show bs.length ≤ 8; omega)
  rw [exec_write_withLink part rfl, handAll_body] at he
  have frame := outside_handWrites r bs 0 noMarks (withLink (joined s { r with body := .write bs }) s)
  rw [← handAll_state] at frame
  have linked : Outside [.link] s (withLink (joined s { r with body := .write bs }) s) := outside_link s _
  obtain ⟨begun, agree⟩ := handAll_marks r bs (withLink (joined s { r with body := .write bs }) s)
  have full := exec_write_withLink hr hb
  rw [show withLink (joined s r) s = withLink (joined s r) (withLink (joined s { r with body := .write bs }) s) from rfl,
    handFree_handAll, handAll_append, Nat.zero_add] at full
  cases he
  exact ⟨_, agree, begun, outside_step frame (by decide) (outside_mono linked (by decide)), full⟩

/-- Marks of other windows do not matter to a beat (R25). -/
theorem handWrite_fresh {id : BitVec 6} {a : Nat} {b : WriteBeat} {m : RequestMarks} {s : State} (ha : MarksAgree m s)
    (h : ∀ w, BeatCounts s id a b w → w ∉ m.begun) :
    (s.handWrite id a b m).2 = (s.handWrite id a b noMarks).2 := by
  rcases hp : s.locate a with o | ⟨w, y, x0, n⟩ | _
  · rw [handWrite_control hp, handWrite_control hp]
  · rw [handWrite_window hp, handWrite_window hp]
    rcases hf : (writeClass s id w y x0 n b).writerPass with _ | _
    · rw [writeBeat_filtered hf, writeBeat_filtered hf]
    · by_cases hw : (writeClass s id w y x0 n b).wholeWords = []
      · rw [writeBeat_ignored hf (Or.inl hw), writeBeat_ignored hf (Or.inl hw)]
      · have fresh : w ∉ m.begun := h w ⟨y, x0, n, hp, hf, by rw [wholeWords_eq] at hw; exact hw⟩
        have unfinished : w ∉ m.finished := fun e => fresh ((ha w).1 e).1
        rw [writeBeat_counts hf hw unfinished, writeBeat_counts hf hw List.not_mem_nil, if_neg (by exact fresh),
          if_neg List.not_mem_nil]
  · rw [handWrite_unclassified hp, handWrite_unclassified hp]

/-- Settles O9: the hand-offs do not see the Link Path (`linkFree_handRead`, `handFree_handAll`), and the marks say which
windows a request has counted into (`handAll_marks`). -/
theorem receivedRequestJoinsTheForwardQueue : Obligations.ReceivedRequestJoinsTheForwardQueue := by
  refine ⟨fun s r hr => ?_, fun s t' r n hr hb hn he => read_last_beat hr hb hn he,
    fun s t' r bs b hr hb hne he => ?_⟩
  · refine ⟨_, exec_received hr, receive_link r s, fun h => ?_, fun h => ?_⟩
    · have enqueued : Outside [.link] s (s.enqueue r) := outside_enqueue r s
      unfold State.receive
      unfold Request.isRead at h
      rcases hb : r.body with _ | _ <;> rw [hb] at h
      · cases h
      · exact outside_step (outside_handReads _ _) (by decide) (outside_mono enqueued (by decide))
    · have enqueued : Outside [.link] s (s.enqueue r) := outside_enqueue r s
      unfold State.receive
      unfold Request.isRead at h
      rcases hb : r.body with _ | _ <;> rw [hb] at h
      · exact outside_step (outside_handWrites r _ _ _ _) (by decide) (outside_mono enqueued (by decide))
      · cases h
  · obtain ⟨m, agree, begun, frame, run⟩ := write_last_beat hr hb hne he
    have counts (w : WindowNo) :
        BeatCounts t' r.requester (r.beatAddress bs.length).toNat b w ↔ ∃ y x0 n, CountsInto s r bs.length b w y x0 n :=
      beatCounts_of_outside frame (by decide) (by decide) _ _ _ _
    intro counted
    have started (w : WindowNo) : w ∈ m.begun ↔ counted w := by
      rw [begun]
      constructor
      · rintro ⟨k, b', hk, y, x0, n, h⟩
        exact ⟨k, b', y, x0, n, hk, h⟩
      · rintro ⟨k, b', y, x0, n, hk, h⟩
        exact ⟨k, b', hk, y, x0, n, h⟩
    refine ⟨fun hfresh => ?_, fun w y x0 n hlast hcounted => ?_⟩
    · have fresh := handWrite_fresh (b := b) agree fun w hw e => by
        obtain ⟨y, x0, n, h⟩ := (counts w).1 hw
        exact hfresh w y x0 n h ((started w).1 e)
      have single := received_beat hr frame (by decide) bs.length (x := .write [b]) rfl
      refine ⟨_, exec_write_withLink single rfl, ?_⟩
      rw [run, fresh]
      refine congrArg Host.Outcome.next ?_
      have alone : (handAll { r with address := r.beatAddress bs.length, body := .write [b] } [b] 0 noMarks
          (withLink (joined (withLink s.link t') { r with address := r.beatAddress bs.length, body := .write [b] })
            (withLink s.link t'))).2
          = withLink (joined (withLink s.link t') { r with address := r.beatAddress bs.length, body := .write [b] })
              (t'.handWrite r.requester (r.beatAddress bs.length).toNat b noMarks).2 := by
        unfold handAll
        rw [beatAddress_zero]
        exact congrArg Prod.snd (handFree_handWrite r.requester (r.beatAddress bs.length).toNat b noMarks _ t')
      exact (congrArg (withLink (joined s r)) alone).symm
    · have place : t'.locate (r.beatAddress bs.length).toNat = .window w y x0 n :=
        (locate_of_outside frame (by decide) (by decide) _).trans hlast.1
      obtain ⟨-, filter, whole⟩ := hlast
      have windows : t'.windows = s.windows := frame .windows (by decide)
      have grid : t'.grid = s.grid := frame .grid (by decide)
      rw [handWrite_window place] at run
      have pass : (writeClass t' r.requester w y x0 n b).writerPass = true := by
        show filterPasses _ t'.windows[w].writerMatch t'.windows[w].writerMask = true
        rw [windows]
        exact filter
      have words : (writeClass t' r.requester w y x0 n b).wholeWords = wholePixels b n := wholeWords_eq _
      have flagged := outside_setFlagIf (writeClass t' r.requester w y x0 n b).hasPartial .partialPixel t'
      have partly : flagsAdded t' (t'.setFlagIf (writeClass t' r.requester w y x0 n b).hasPartial .partialPixel) (partialFlags b n) :=
        flagsAdded_partial (writeClass t' r.requester w y x0 n b) t'
      have began : (writeClass t' r.requester w y x0 n b).window ∈ m.begun := (started w).2 hcounted
      have ignored (h : t'.buffers[w].state.counting = false) :
          ∃ t, exec (.requestReceived r) s = .next t ∧ t.link = joined s r ∧ flagsAdded t' t (partialFlags b n)
            ∧ Outside [.link, .accrued] t' t := by
        rw [writeBeat_ignored pass (Or.inr ((agree w).2 ⟨began, h⟩))] at run
        exact ⟨_, run, rfl, flagsAdded_congr_state partly rfl rfl,
          outside_step (outside_link _ _) (by decide) (outside_mono flagged (by decide))⟩
      have counting (h : t'.buffers[w].state.counting = true) :
          exec (.requestReceived r) s = .next (withLink (joined s r)
            ((t'.setFlagIf (writeClass t' r.requester w y x0 n b).hasPartial .partialPixel).countBeat
              (writeClass t' r.requester w y x0 n b))) := by
        have unfinished : (writeClass t' r.requester w y x0 n b).window ∉ m.finished := fun e => by
          have := ((agree w).1 e).2
          rw [h] at this
          cases this
        rw [run, writeBeat_counts pass (by rw [words]; exact whole) unfinished, if_pos began]
      generalize t'.setFlagIf (writeClass t' r.requester w y x0 n b).hasPartial .partialPixel = v at *
      have vbuffers : v.buffers = t'.buffers := flagged .buffers (by decide)
      have vwindows : v.windows = s.windows := (flagged .windows (by decide)).trans windows
      intro count full
      rcases hst : t'.buffers[w].state with _ | _ | k | _ | k | k | k | k
      case filling =>
        obtain ⟨buffers, queue, banks, counted'⟩ := countBeat_filling_spec (u := v)
          (c := writeClass t' r.requester w y x0 n b) (k := k) (by rw [vbuffers]; exact hst)
        rw [words, vbuffers, vwindows] at buffers queue
        have vbanks : v.banks = t'.banks := flagged .banks (by decide)
        refine ⟨_, counting (by rw [hst]; rfl), rfl, buffers, queue.trans ?_, ?_, fun j hj => ?_, ?_, ?_⟩
        · rw [flagged .queue (by decide)]
          rfl
        · show BankCounts s w b y x0 n t'.banks[k] (v.countBeat (writeClass t' r.requester w y x0 n b)).banks[k]
          rw [banks, banks_set_get, if_pos rfl, vbanks]
          exact countInto_bankCounts vwindows ((flagged .grid (by decide)).trans grid) (writeClass t' r.requester w y x0 n b) _
        · show (v.countBeat (writeClass t' r.requester w y x0 n b)).banks[j] = t'.banks[j]
          rw [banks, banks_set_get, if_neg hj, vbanks]
        · exact flagsAdded_congr_state partly rfl (counted' .accrued (by decide))
        · exact outside_step (outside_link _ _) (by decide)
            (outside_step counted' (by decide) (outside_mono flagged (by decide)))
      case blind =>
        obtain ⟨buffers, flags, counted'⟩ := countBeat_blind_spec (u := v)
          (c := writeClass t' r.requester w y x0 n b) (by rw [vbuffers]; exact hst)
        rw [words, vbuffers, vwindows] at buffers flags
        exact ⟨_, counting (by rw [hst]; rfl), rfl, buffers,
          flagsAdded_congr_state (flagsAdded_trans partly flags) rfl rfl,
          outside_step (outside_link _ _) (by decide)
            (outside_step counted' (by decide) (outside_mono flagged (by decide)))⟩
      all_goals exact ignored (by rw [hst]; rfl)

end Sys2Proof.Laws
end

section
/-! SUPPORT. The bounds of duties and gains (R67, R72, R79) over every command. -/

namespace Sys2Proof.Laws

-- Each proof may wait for an earlier one; run one after another they need no thread each.
set_option Elab.async false

open Sys2Proof Sys2Proof.Machine Sys2Proof.Safety

/-! ### Properties kept by the frames of commands -/

theorem keeps_whenLive {P : State → Prop} {f : State → State} (h : ∀ s, P s → P (f s)) {s : State} (hs : P s) :
    P (s.whenLive f) := by
  unfold State.whenLive
  split
  · exact hs
  · exact h s hs

theorem keeps_ite {P : State → Prop} {c : Prop} [Decidable c] {x y : State} (hx : P x) (hy : P y) : P (if c then x else y) := by
  split
  · exact hx
  · exact hy

theorem keeps_foldl {P : State → Prop} {α : Type} {f : State → α → State} (h : ∀ s a, P s → P (f s a)) (as : List α) {s : State}
    (hs : P s) : P (as.foldl f s) := by
  induction as generalizing s with
  | nil => exact hs
  | cons a as ih => exact ih (h s a hs)

/-- A property that the ring and the numbering of free values have no part in is kept by a command of the ring if its body
keeps it. -/
theorem keeps_runCommand {P : State → Prop} (hq : ∀ s t, Outside [.ring, .freeCount] s t → P s → P t) (r : Row)
    {body : BitVec 1024 → State → State} (hb : ∀ snap s, P s → P (body snap s)) {s : State} (hs : P s) :
    P (s.runCommand r body) := by
  have begun (snap : BitVec 1024) : P (s.beginCommand snap) :=
    hq _ _ (outside_mono (outside_beginCommand snap s) (by decide)) hs
  unfold State.runCommand
  split
  · exact hs
  · refine keeps_ite ?_ hs
    split
    · exact hq _ _ (outside_answer _ _ _) (begun _)
    · exact hb _ _ (begun _)

/-! ### Duties and gains -/

/-- An entry of the Zone Drive Table in its range. -/
def entryOk (e : DriveEntry) : Prop := e.duty ≤ 4095 ∧ gainOk e.gain

theorem gainOk_unity : gainOk 256 := ⟨by decide, by decide⟩

/-- The analysis in progress is the one there was, or none. -/
def AnalysisKept (s t : State) : Prop := t.engine.analysis = s.engine.analysis ∨ t.engine.analysis = none

theorem analysisKept_of_outside {ps : List Piece} {s t : State} (h : Outside ps s t) (hp : Piece.engine ∉ ps := by decide) :
    AnalysisKept s t := Or.inl (congrArg Engine.analysis (h .engine hp))

theorem analysisKept_trans {s t u : State} (h : AnalysisKept s t) (k : AnalysisKept t u) : AnalysisKept s u := by
  rcases k with k | k
  · exact h.imp k.trans k.trans
  · exact Or.inr k

theorem levelInv_of {s t : State} (h : LevelInv s) (hd : ∀ z, entryOk (t.drive.get z)) (hr : t.results = s.results)
    (ha : AnalysisKept s t) : LevelInv t := by
  refine ⟨hd, fun k => by rw [hr]; exact h.results k, fun a e => ?_⟩
  rcases ha with ha | ha
  · exact h.ceiling a (ha.symm.trans e)
  · rw [ha] at e
    cases e

theorem levelInv_of_outside {ps : List Piece} {s t : State} (ho : Outside ps s t)
    (hp : Piece.drive ∉ ps ∧ Piece.results ∉ ps ∧ Piece.engine ∉ ps) (h : LevelInv s) : LevelInv t :=
  levelInv_of h (fun z => by rw [ho .drive hp.1]; exact h.drive z) (ho .results hp.2.1) (analysisKept_of_outside ho hp.2.2)

theorem levelInv_commitRows (k : SlotNo) (lo hi : Nat) {s : State} (h : LevelInv s) : LevelInv (s.commitRows k lo hi) := by
  have frame := outside_commitRows k lo hi s
  refine levelInv_of h (fun z => ?_) (frame .results (by decide)) (analysisKept_of_outside frame)
  rw [commitRows_get]
  split
  · exact h.results k z
  · exact h.drive z

theorem levelInv_commitOrHold (w : WindowNo) {s : State} (h : LevelInv s) : LevelInv (s.commitOrHold w) := by
  rcases hk : s.scan.result with _ | k
  · rw [commitOrHold_held w hk]
    refine levelInv_of_outside (ps := [.accrued]) ?_ (by decide) h
    exact outside_step (outside_setFlagIf _ _ _) (by decide) (outside_setFlag .hold s)
  · have com := commitOrHold_committed w hk
    have frame := outside_commitOrHold w s
    refine levelInv_of h (fun z => ?_) (frame .results (by decide)) (analysisKept_of_outside frame)
    rw [com.drive]
    split
    · exact h.results k z
    · exact h.drive z

theorem levelInv_scanBeat (w : WindowNo) (y : Nat) {s : State} (h : LevelInv s) : LevelInv (s.scanBeat w y) := by
  refine keeps_ite ?_ (keeps_ite ?_ h)
  · have flushed : LevelInv s.flushScan := by
      unfold State.flushScan
      split
      · exact levelInv_commitRows _ _ _ h
      · exact h
    have replaced := levelInv_of_outside (outside_replaceScan w y _) (by decide) flushed
    have restarted := levelInv_of_outside (outside_restartSupervision _) (by decide) (levelInv_commitOrHold w replaced)
    exact levelInv_of_outside (outside_releaseTripOf _ _) (by decide) restarted
  · unfold State.advance
    dsimp only
    split
    · exact levelInv_of_outside (outside_scan _ _) (by decide) (levelInv_commitRows _ _ _ h)
    · exact levelInv_of_outside (outside_scan s _) (by decide) h

theorem levelInv_handRead (c : ReadClass) {s : State} (h : LevelInv s) : LevelInv (s.handRead c) := by
  unfold State.handRead
  split
  · exact keeps_ite (levelInv_scanBeat _ _ h) h
  · exact h

/-! ### Analyses -/

theorem analysisKept_beginCounting (w : WindowNo) (s : State) : AnalysisKept s (s.beginCounting w) := by
  by_cases hd : s.buffers[w].state = .disabled
  · have same : s.beginCounting w = s := by
      unfold State.beginCounting
      rw [hd]
    rw [same]
    exact Or.inl rfl
  · unfold AnalysisKept
    rw [(beginCounting_spec s w hd).engine, begunEngine]
    split
    · exact Or.inr rfl
    · exact Or.inl rfl

theorem countBeat_engine (c : WriteClass) (s : State) : (s.countBeat c).engine = s.engine := by
  rcases hs : s.buffers[c.window].state with _ | _ | k | _ | k | k | k | k
  case filling =>
    obtain ⟨-, -, -, frame⟩ := countBeat_filling_spec hs
    exact frame .engine (by decide)
  case blind =>
    obtain ⟨-, -, frame⟩ := countBeat_blind_spec hs
    exact frame .engine (by decide)
  all_goals rw [countBeat_other (by rw [hs]; rfl)]

theorem analysisKept_writeBeat (c : WriteClass) (m : RequestMarks) (s : State) : AnalysisKept s (s.writeBeat c m).2 := by
  have flagged := analysisKept_of_outside (outside_setFlagIf c.hasPartial .partialPixel s)
  have counted (t : State) : AnalysisKept t (t.countBeat c) := Or.inl (congrArg Engine.analysis (countBeat_engine c t))
  rcases hp : c.writerPass with _ | _
  · rw [writeBeat_filtered hp]
    exact Or.inl rfl
  · by_cases hn : c.wholeWords = [] ∨ c.window ∈ m.finished
    · rw [writeBeat_ignored hp hn]
      exact flagged
    · obtain ⟨whole, unfinished⟩ := not_or.1 hn
      rw [writeBeat_counts hp whole unfinished]
      split
      · exact analysisKept_trans flagged (counted _)
      · exact analysisKept_trans flagged (analysisKept_trans (analysisKept_beginCounting _ _) (counted _))

theorem levelInv_handWrite (id : BitVec 6) (a : Nat) (b : WriteBeat) (m : RequestMarks) {s : State} (h : LevelInv s) :
    LevelInv (s.handWrite id a b m).2 := by
  have frame := outside_handWrite id a b m s
  refine levelInv_of h (fun z => by rw [frame .drive (by decide)]; exact h.drive z) (frame .results (by decide)) ?_
  unfold State.handWrite
  split
  · exact analysisKept_of_outside (outside_captureBeat _ _ s)
  · exact analysisKept_writeBeat _ _ _
  · exact Or.inl rfl

theorem levelInv_handWrites (r : Request) (bs : List WriteBeat) (k : Nat) (m : RequestMarks) {s : State} (h : LevelInv s) :
    LevelInv (s.handWrites r bs k m) := by
  induction bs generalizing k m s with
  | nil => exact h
  | cons b rest ih => exact ih _ _ (levelInv_handWrite _ _ _ _ h)

theorem levelInv_receive (r : Request) {s : State} (h : LevelInv s) : LevelInv (s.receive r) := by
  have enqueued := levelInv_of_outside (outside_enqueue r s) (by decide) h
  unfold State.receive
  split
  · exact levelInv_handWrites r _ _ _ enqueued
  · exact keeps_foldl (fun _ c => levelInv_handRead c) _ enqueued

theorem snapshot_gainCeiling (s : State) : gainOk s.snapshot.params.gainCeiling := by
  have range (x : Nat) : gainOk (min 4096 (max 256 x)) := ⟨by omega, by omega⟩
  have taken := snapshot_spec s
  have builtin (h : DefaultTaken s.snapshot.params) : gainOk s.snapshot.params.gainCeiling := by
    rw [h.2.2]
    exact (⟨by decide, by decide⟩ : gainOk 1024)
  rcases hx : s.engine.selected with _ | _
  · by_cases hv : s.tables.setAState = .valid
    · rw [(taken.setA hx hv).2.gainCeiling]
      exact range _
    · exact builtin (taken.builtin (Or.inl ⟨hx, hv⟩)).2
  · by_cases hv : s.tables.setBState = .valid
    · rw [(taken.setB hx hv).2.gainCeiling]
      exact range _
    · exact builtin (taken.builtin (Or.inr ⟨hx, hv⟩)).2

/-- ANALYSIS_START leaves the analysis in progress, or starts one under the snapshot of the state (R54). -/
theorem analysisStart_analysis {s t : State} (h : exec .analysisStart s = .next t) :
    t.engine.analysis = s.engine.analysis ∨ ∃ a, t.engine.analysis = some a ∧ a.snap = s.snapshot := by
  have run : execAnalysisStart s = .next t := h
  have same (e : (Host.Outcome.next s : Out) = .next t) :
      t.engine.analysis = s.engine.analysis ∨ ∃ a, t.engine.analysis = some a ∧ a.snap = s.snapshot := by
    cases e
    exact Or.inl rfl
  unfold execAnalysisStart at run
  split at run
  · exact same run
  · split at run
    · split at run
      · split at run
        · cases run
          exact Or.inr ⟨_, rfl, rfl⟩
        · cases run
      all_goals exact same run
    · exact same run

theorem levelInv_completeAnalysis {a : Analysis} {s : State} (h : LevelInv s) (ha : s.engine.analysis = some a) :
    LevelInv (s.completeAnalysis a) := by
  obtain ⟨u, done, deliver⟩ := completeAnalysis_delivers a s
  have delivered : LevelInv u := by
    refine ⟨fun z => by rw [done.outside .drive (by decide)]; exact h.drive z, fun k => ?_, fun b e => ?_⟩
    · rw [done.results]
      show resultOk (s.results.set a.slot _)[k.val]
      rw [Vector.getElem_set]
      split
      · exact analyse_ok _ _ (h.ceiling a ha)
      · exact h.results k
    · rw [done.engine] at e
      cases e
  rw [deliver, State.deliver]
  have placed (b : Buffer) := levelInv_of_outside (outside_setBuffer a.buffer b u) (by decide) delivered
  refine keeps_ite ?_ (placed _)
  rw [lateJoin_eq]
  exact levelInv_commitOrHold _ (levelInv_of_outside (outside_scan _ _) (by decide) (placed _))

theorem levelInv_superviseExpire {s : State} (h : LevelInv s) : LevelInv s.superviseExpire := by
  have stopped := levelInv_of_outside (outside_stopSupervision s) (by decide) h
  unfold State.superviseExpire
  dsimp only
  split
  · unfold State.enterFallback
    dsimp only
    refine levelInv_of_outside (outside_setFlag _ _) (by decide) (levelInv_of_outside (outside_addEvent _ _ _ _) (by decide) ?_)
    have ended := levelInv_of_outside (outside_scan s.stopSupervision.endScan
      { s.stopSupervision.endScan.scan with fallback := .fallback }) (by decide)
      (levelInv_of_outside (outside_endScan s.stopSupervision) (by decide) stopped)
    refine keeps_foldl (P := LevelInv) (fun t z ht => ?_) _ ended
    have frame := outside_writeDrive z (s.stopSupervision.fallbackEntry z) t
    refine levelInv_of ht (fun y => ?_) (frame .results (by decide)) (analysisKept_of_outside frame)
    rw [drive_writeDrive, ZoneTable.get_set]
    split
    · refine ⟨?_, gainOk_unity⟩
      unfold State.fallbackEntry
      dsimp only
      split
      · exact (limits_bounds s.stopSupervision).2.1
      · exact Nat.zero_le _
    · exact ht.drive y
  · exact levelInv_of_outside (outside_endScan _) (by decide) stopped

theorem analysisKept_disableWindow (w : WindowNo) (s : State) : AnalysisKept s (s.disableWindow w) := by
  have released : AnalysisKept s (s.releaseBuffer w) := by
    unfold State.releaseBuffer
    split
    case h_3 => exact Or.inr rfl
    all_goals exact Or.inl rfl
  refine analysisKept_trans released ?_
  unfold State.disableWindow
  dsimp only
  split <;> exact Or.inl rfl

theorem levelInv_replaceGrid (g : Grid) {s : State} (h : LevelInv s) : LevelInv (s.replaceGrid g) := by
  unfold State.replaceGrid
  refine levelInv_of_outside (outside_forLines (fun l t => outside_modifyLine l clearSuspects t) _) (by decide) ?_
  exact ⟨fun z => ⟨Nat.zero_le _, gainOk_unity⟩, h.results, fun a e => by cases e⟩

/-- Every command keeps duties and gains in range. -/
theorem levelInv_exec {c : Instr} {s t : State} (hs : LevelInv s) (h : exec c s = .next t) : LevelInv t := by
  have whenLive {f : State → State} (hf : ∀ s, LevelInv s → LevelInv (f s)) (e : (.next (s.whenLive f) : Out) = .next t) :
      LevelInv t := by
    cases e
    exact keeps_whenLive hf hs
  have quiet : ∀ s t, Outside [.ring, .freeCount] s t → LevelInv s → LevelInv t := fun s t ho => levelInv_of_outside ho (by decide)
  have answers (data : List Injected) (a : Answer) {s : State} (hs : LevelInv s) : LevelInv (s.answer data a) :=
    quiet _ _ (outside_answer data a s) hs
  have runs {r : Row} {body : BitVec 1024 → State → State} (hb : ∀ snap s, LevelInv s → LevelInv (body snap s))
      (e : (.next (s.runCommand r body) : Out) = .next t) : LevelInv t := by
    cases e
    exact keeps_runCommand quiet r hb hs
  cases c
  case requestReceived r =>
    exact whenLive (fun s hs => keeps_ite hs
      (keeps_ite (levelInv_of_outside (outside_link s _) (by decide) hs) (levelInv_receive r hs))) h
  case resetAsserted =>
    cases h
    exact ⟨levelInv_reset.drive, levelInv_reset.results, levelInv_reset.ceiling⟩
  case analysisStart =>
    have frame := exec_outside h
    refine ⟨fun z => by rw [frame .drive (by decide)]; exact hs.drive z, fun k => ?_, fun a ha => ?_⟩
    · rw [frame .results (by decide)]
      exact hs.results k
    · rcases analysisStart_analysis h with e | ⟨b, e, hb⟩
      · exact hs.ceiling a (e.symm.trans ha)
      · cases e.symm.trans ha
        rw [hb]
        exact snapshot_gainCeiling s
  case analysisCompletion =>
    refine whenLive (fun s hs => ?_) h
    split
    · next a ha => exact levelInv_completeAnalysis hs ha
    · exact hs
  case supervisionTimerExpiry => exact whenLive (fun s hs => keeps_ite (levelInv_superviseExpire hs) hs) h
  case windowOff =>
    refine runs (fun snap s hs => ?_) h
    unfold State.runWindowOff
    split
    · exact answers _ _ hs
    · refine keeps_ite (answers _ _ hs) (answers _ _ ?_)
      have frame := outside_disableWindow ‹WindowNo› s
      exact levelInv_of hs (fun z => by rw [frame .drive (by decide)]; exact hs.drive z) (frame .results (by decide))
        (analysisKept_disableWindow _ s)
  case setGrid =>
    refine runs (fun snap s hs => ?_) h
    unfold State.runSetGrid
    split
    · exact answers _ _ hs
    · exact answers _ _ (levelInv_replaceGrid _ hs)
  case selectSet =>
    refine runs (fun snap s hs => ?_) h
    have selected (x : SetId) : LevelInv (s.selectSet x) := ⟨hs.drive, hs.results, hs.ceiling⟩
    unfold State.runSelectSet
    split
    · exact answers _ _ (selected _)
    · exact answers _ _ (selected _)
    · exact answers _ _ hs
  all_goals exact levelInv_of_outside (exec_outside h) (by simp [touched]) hs

/-- Settles O58: every command keeps duties and gains in range (`levelInv_exec`), so every step does. -/
theorem levelsStayInRange : Obligations.LevelsStayInRange := fun _ _ hs h =>
  step_keeps (fun _ _ hs => ⟨hs.drive, hs.results, hs.ceiling⟩) (fun _ _ _ => levelInv_exec) hs h

end Sys2Proof.Laws
end

section
/-! SUPPORT. The agreement of ring, injected queue and table states (R9, R154, R158, R160) over every command. -/

namespace Sys2Proof.Laws

-- Each proof may wait for an earlier one; run one after another they need no thread each.
set_option Elab.async false

open Sys2Proof Sys2Proof.Machine Sys2Proof.Safety

/-! ### Lists of injected requests -/

/-- An injected request other than a status word write. -/
def Plain (q : Injected) : Prop := q.request.requester = 63 ∧ ¬isStatus q

/-- Requests of requester 63 of which a status word write is the last at most (R9, R154). -/
structure WellQueued (qs : List Injected) : Prop where
  requester : ∀ q ∈ qs, q.request.requester = 63
  last : ∀ before q after, qs = before ++ q :: after → isStatus q → after = []

theorem wellQueued_sublist {qs ps : List Injected} (h : WellQueued qs) (hs : ps.Sublist qs) : WellQueued ps := by
  refine ⟨fun q hq => h.requester q (hs.subset hq), fun before q after e hq => ?_⟩
  have tail : (q :: after).Sublist qs := (e ▸ List.sublist_append_right before (q :: after)).trans hs
  obtain ⟨front, back, rfl, hfront, hback⟩ := List.cons_sublist_iff.1 tail
  obtain ⟨x, y, rfl⟩ := List.append_of_mem hfront
  have none := h.last x q (y ++ back) (by simp) hq
  rw [(List.append_eq_nil_iff.1 none).2] at hback
  exact List.sublist_nil.1 hback

theorem wellQueued_plain {qs : List Injected} (h : ∀ q ∈ qs, Plain q) : WellQueued qs :=
  ⟨fun q hq => (h q hq).1, fun before q after e hs => absurd hs (h q (by rw [e]; simp)).2⟩

theorem wellQueued_snoc {qs : List Injected} (h : ∀ q ∈ qs, Plain q) {w : Injected} (hw : w.request.requester = 63) :
    WellQueued (qs ++ [w]) := by
  refine ⟨fun q hq => ?_, fun before q after e hs => ?_⟩
  · rcases List.mem_append.1 hq with hq | hq
    · exact (h q hq).1
    · rw [List.mem_singleton.1 hq, hw]
  · rcases List.eq_nil_or_concat after with rfl | ⟨init, x, rfl⟩
    · rfl
    · have front : qs = before ++ q :: init := by
        have e' : qs ++ [w] = (before ++ q :: init) ++ [x] := by rw [e]; simp
        exact (List.append_inj' e' rfl).1
      exact absurd hs (h q (by rw [front]; simp)).2

/-! ### The agreement in other terms -/

theorem unsent_some {s : State} {c : Command} (h : s.ring.executing = some c) : unsent s = s.link.injected ++ c.offers := by
  unfold unsent
  rw [h]

theorem unsent_none {s : State} (h : s.ring.executing = none) : unsent s = s.link.injected := by
  unfold unsent
  rw [h]
  exact List.append_nil _

theorem load_some {s : State} {c : Command} (h : s.ring.executing = some c) : s.load = c.load := by
  unfold State.load
  rw [h]

theorem load_none {s : State} (h : s.ring.executing = none) : s.load = none := by
  unfold State.load
  rw [h]

theorem wellQueued_unsent {s : State} (h : RingInv s) : WellQueued (unsent s) := ⟨h.requester, h.last⟩

/-- The agreement looks at the injected queue, the executing command and the table states. -/
theorem ringInv_congr {s t : State} (h : RingInv s) (hi : t.link.injected = s.link.injected)
    (he : t.ring.executing = s.ring.executing) (ht : ∀ id, t.tables.stateOf id = s.tables.stateOf id) : RingInv t := by
  have unsents : unsent t = unsent s := by
    unfold unsent
    rw [hi, he]
  have loads : t.load = s.load := by
    unfold State.load
    rw [he]
  obtain ⟨idle, requester, last, loading, tables⟩ := h
  refine ⟨fun e => hi.trans (idle (he.symm.trans e)), by rw [unsents]; exact requester, by rw [unsents]; exact last,
    by rw [unsents, loads]; exact loading, fun id => ?_⟩
  rw [ht, loads]
  exact tables id

theorem ringInv_of_outside {ps : List Piece} {s t : State} (ho : Outside ps s t)
    (hp : Piece.link ∉ ps ∧ Piece.ring ∉ ps ∧ Piece.tables ∉ ps) (h : RingInv s) : RingInv t :=
  ringInv_congr h (by rw [ho .link hp.1]) (by rw [ho .ring hp.2.1]) fun id => by rw [ho .tables hp.2.2]

/-- No command: no injected request waits, and no table is LOADING. -/
theorem ringInv_idle {s : State} (he : s.ring.executing = none) (hi : s.link.injected = [])
    (ht : ∀ id, s.tables.stateOf id ≠ .loading) : RingInv s := by
  have unsents : unsent s = [] := (unsent_none he).trans hi
  refine ⟨fun _ => hi, fun q hq => ?_, fun before q after e => ?_, fun hn => absurd (load_none he) hn,
    fun id => ⟨fun h => absurd h (ht id), ?_⟩⟩
  · rw [unsents] at hq
    cases hq
  · rw [unsents] at e
    simp at e
  rintro ⟨l, b, crc, kept, h, -⟩
  rw [load_none he] at h
  cases h

/-- A command without a load, with its requests in order. -/
theorem ringInv_executing {s : State} {c : Command} (he : s.ring.executing = some c) (hl : c.load = none)
    (hq : WellQueued (s.link.injected ++ c.offers)) (ht : ∀ id, s.tables.stateOf id ≠ .loading) : RingInv s := by
  have loads : s.load = none := (load_some he).trans hl
  obtain ⟨requester, last⟩ := hq
  rw [← unsent_some he] at requester last
  refine ⟨fun e => (nomatch he.symm.trans e), requester, last, fun h => absurd loads h, fun id => ⟨fun h => absurd h (ht id), ?_⟩⟩
  rintro ⟨l, b, crc, kept, h, -⟩
  rw [loads] at h
  cases h

/-- A command with a load in progress: no status word write waits yet. -/
theorem ringInv_loading {s : State} {c : Command} {l : Load} (he : s.ring.executing = some c) (hl : c.load = some l)
    (hq : ∀ q ∈ s.link.injected ++ c.offers, Plain q)
    (ht : ∀ id, s.tables.stateOf id = .loading ↔ l.table = id ∧ ∃ b crc kept, l.phase = .fetching b crc kept) : RingInv s := by
  have loads : s.load = some l := (load_some he).trans hl
  obtain ⟨requester, last⟩ := wellQueued_plain hq
  rw [← unsent_some he] at requester last hq
  refine ⟨fun e => (nomatch he.symm.trans e), requester, last, fun _ q h => (hq q h).2, fun id => (ht id).trans ?_⟩
  rw [loads]
  constructor
  · rintro ⟨hid, b, crc, kept, hp⟩
    exact ⟨l, b, crc, kept, rfl, hid, hp⟩
  · rintro ⟨m, b, crc, kept, hm, hid, hp⟩
    cases hm
    exact ⟨hid, b, crc, kept, hp⟩

/-- What the agreement says of a command whose load has not ended. -/
theorem ringInv_load {s : State} {c : Command} {l : Load} (h : RingInv s) (he : s.ring.executing = some c)
    (hl : c.load = some l) :
    (∀ q ∈ s.link.injected ++ c.offers, Plain q)
    ∧ ∀ id, s.tables.stateOf id = .loading ↔ l.table = id ∧ ∃ b crc kept, l.phase = .fetching b crc kept := by
  have loads : s.load = some l := (load_some he).trans hl
  refine ⟨fun q hq => ?_, fun id => (h.tables id).trans ?_⟩
  · rw [← unsent_some he] at hq
    exact ⟨h.requester q hq, h.loading (by rw [loads]; nofun) q hq⟩
  · rw [loads]
    constructor
    · rintro ⟨m, b, crc, kept, hm, hid, hp⟩
      cases hm
      exact ⟨hid, b, crc, kept, hp⟩
    · rintro ⟨hid, b, crc, kept, hp⟩
      exact ⟨l, b, crc, kept, rfl, hid, hp⟩

/-- Without a load no table is LOADING. -/
theorem ringInv_quiet {s : State} (h : RingInv s) (hl : s.load = none) (id : TableId) : s.tables.stateOf id ≠ .loading := by
  intro e
  obtain ⟨l, b, crc, kept, hm, -⟩ := (h.tables id).1 e
  rw [hl] at hm
  cases hm

/-- The answer of a command: its data writes, then the status word write (R154). -/
theorem ringInv_answer {s : State} {c : Command} (he : s.ring.executing = some c) {data : List Injected}
    (hq : ∀ q ∈ s.link.injected ++ data, Plain q) (ht : ∀ id, s.tables.stateOf id ≠ .loading) (a : Answer) :
    RingInv (s.answer data a) := by
  have frame := outside_answer data a s
  have run : (s.answer data a).ring.executing
      = some
          { c with
            offers := data ++ [statusWrite (s.slotBase s.ring.index + 0x60) (statusWord a (sequenceOf c.snapshot)) s.freeCount]
            load := none } := by
    unfold State.answer
    rw [he]
  refine ringInv_executing run rfl ?_ fun id => by rw [frame .tables (by decide)]; exact ht id
  rw [frame .link (by decide)]
  dsimp only
  rw [← List.append_assoc]
  exact wellQueued_snoc hq rfl

/-! ### Loads (R160 to R164) -/

section
variable {s : State} {c : Command} {l : Load} (he : s.ring.executing = some c) (hq : ∀ q ∈ s.link.injected, Plain q)
  (ht : ∀ id, id ≠ l.table → s.tables.stateOf id ≠ .loading)
include he hq ht

theorem ringInv_failLoad (a : Answer) : RingInv (s.failLoad l.table a) := by
  have told := outside_addEvent .tableInvalid (.table l.table) (statusCode a.1) (s.setTableState l.table .invalid)
  have set := outside_setTableState l.table .invalid s
  unfold State.failLoad
  refine ringInv_answer (c := c) ?_ ?_ (fun id => ?_) a
  · rw [told .ring (by decide), set .ring (by decide), he]
  · rw [told .link (by decide), set .link (by decide), List.append_nil]
    exact hq
  · rw [told .tables (by decide), setTableState_tables, stateOf_withState]
    split
    · nofun
    · next h => exact ht id h

theorem ringInv_passLoad : RingInv (s.passLoad l) := by
  have set := outside_setTableState l.table .valid s
  unfold State.passLoad
  refine ringInv_answer (c := c) ?_ ?_ (fun id => ?_) _
  · rw [set .ring (by decide), he]
  · rw [set .link (by decide), List.append_nil]
    exact hq
  · rw [setTableState_tables, stateOf_withState]
    split
    · nofun
    · next h => exact ht id h

theorem ringInv_endLoad (sum : BitVec 16) : RingInv (s.endLoad l sum) := by
  unfold State.endLoad
  split
  · split
    · split
      · exact ringInv_failLoad he hq ht _
      · exact ringInv_passLoad he hq ht
    · exact ringInv_passLoad he hq ht
  · exact ringInv_failLoad he hq ht _

end

theorem ringInv_beginLoad {s : State} (h : RingInv s) {l : Load} (hl : s.load = some l)
    (hp : l.phase = .waiting) : RingInv (s.beginLoad l) := by
  rcases he : s.ring.executing with _ | c
  · rw [load_none he] at hl
    cases hl
  · rw [load_some he] at hl
    obtain ⟨plain, states⟩ := ringInv_load h he hl
    have set := outside_setTableState l.table .loading s
    have run : (s.setTableState l.table .loading).ring.executing = some c := by rw [set .ring (by decide), he]
    unfold State.beginLoad
    rw [setLoad_eq run]
    refine ringInv_loading rfl rfl (fun q hq => ?_) fun id => ?_
    · rcases List.mem_append.1 hq with hq | hq
      · have : q ∈ s.link.injected := by
          rw [← set .link (by decide)]
          exact hq
        exact plain q (List.mem_append_left _ this)
      · obtain ⟨i, -, rfl⟩ := List.mem_map.1 (fetchReads_eq l ▸ hq)
        exact ⟨rfl, fun ⟨w, e⟩ => by cases e⟩
    · show (s.setTableState l.table .loading).tables.stateOf id = .loading ↔ _
      rw [setTableState_tables, stateOf_withState]
      have quiet : s.tables.stateOf id ≠ .loading := fun e => by
        obtain ⟨-, b, crc, kept, hf⟩ := (states id).1 e
        rw [hp] at hf
        cases hf
      split
      · next hid => exact ⟨fun _ => ⟨hid.symm, _, _, _, rfl⟩, fun _ => rfl⟩
      · next hid => exact ⟨fun e => absurd e quiet, fun e => absurd e.1.symm hid⟩

/-- A beat of the fetch in progress (R161 to R163). -/
theorem ringInv_takeFetchBeat {s : State} (h : RingInv s) {e : Tracked} {rest : List Tracked} {c : Command} {l : Load} {b : Nat}
    {crc : BitVec 16} {kept : Beat} (data : Beat) (he : s.ring.executing = some c) (hl : c.load = some l)
    (hp : l.phase = .fetching b crc kept) :
    RingInv (State.takeFetchBeat c l b crc kept data { s with link := { s.link with tracking := countReturn e rest } }) := by
  obtain ⟨plain, states⟩ := ringInv_load h he hl
  have same : ∀ id, (afterBeat s e rest l b kept data).tables.stateOf id = s.tables.stateOf id :=
    fun id => takeBeat_stateOf _ _ _ _ _ _ _
  have run : (afterBeat s e rest l b kept data).ring.executing = some c := he
  rw [takeFetchBeat_eq]
  split
  · refine ringInv_endLoad run (fun q hq => plain q (List.mem_append_left _ hq)) (fun id hid e' => ?_) _
    rw [same] at e'
    exact hid ((states id).1 e').1.symm
  · rw [setLoad_eq run]
    refine ringInv_loading rfl rfl plain fun id => ?_
    refine (iff_of_eq (congrArg (· = TableState.loading) (same id))).trans ((states id).trans (and_congr_right fun _ => ?_))
    exact ⟨fun _ => ⟨_, _, _, rfl⟩, fun _ => ⟨_, _, _, hp⟩⟩

/-- The downstream link goes DOWN (R17, R155, R164). -/
theorem ringInv_downstreamDown {s : State} (h : RingInv s) : RingInv s.downstreamDown := by
  unfold State.downstreamDown
  obtain ⟨u, hu, ring, injected, tables⟩ : ∃ u, u = ({ s with link :=
        { s.link with downstream := .down, injected := [], waitCount := 0, tracking := [] } } : State)
      ∧ u.ring = s.ring ∧ u.link.injected = [] ∧ u.tables = s.tables := ⟨_, rfl, rfl, rfl, rfl⟩
  rw [← hu]
  unfold State.stallRing
  rw [ring]
  rcases he : s.ring.executing with _ | c
  · exact ringInv_idle (ring ▸ he) injected fun id => tables ▸ ringInv_quiet h (load_none he) id
  · have run : u.ring.executing = some c := ring ▸ he
    rcases hl : c.load with _ | l
    · dsimp only
      rw [hl]
      refine ringInv_executing rfl rfl ?_ fun id => ?_
      · dsimp only
        rw [injected]
        refine wellQueued_sublist (wellQueued_unsent h) ?_
        rw [unsent_some he]
        exact List.Sublist.append_right List.filter_sublist _
      · show u.tables.stateOf id ≠ _
        rw [tables]
        exact ringInv_quiet h ((load_some he).trans hl) id
    · obtain ⟨plain, states⟩ := ringInv_load h he hl
      dsimp only
      rw [hl]
      rcases hp : l.phase with _ | ⟨b, crc, kept⟩
      · dsimp only
        rw [hp]
        refine ringInv_loading run hl (fun q hq => plain q ?_) fun id => ?_
        · rw [injected, List.nil_append] at hq
          exact List.mem_append_right _ hq
        · rw [tables]
          exact states id
      · dsimp only
        rw [hp]
        refine ringInv_failLoad run (fun q hq => ?_) (fun id hid e => ?_) _
        · rw [injected] at hq
          cases hq
        · rw [tables] at e
          exact hid ((states id).1 e).1.symm

/-! ### The two queues (R9 to R11, R154) -/

theorem ringInv_offerNext {s : State} (h : RingInv s) : RingInv s.offerNext := by
  by_cases hn : ∀ c, s.ring.executing = some c → c.offers = [] ∨ 4 ≤ s.link.injected.length
  · rw [offerNext_idle hn]
    exact h
  · push Not at hn
    obtain ⟨c, he, hne, hq⟩ := hn
    obtain ⟨q, rest, ho⟩ := List.exists_cons_of_ne_nil hne
    rw [offerNext_offers he ho hq]
    have same : (s.link.injected ++ [q]) ++ rest = s.link.injected ++ c.offers := by
      rw [ho, List.append_assoc]
      rfl
    rcases hl : c.load with _ | l
    · refine ringInv_executing rfl rfl ?_ fun id => ringInv_quiet h ((load_some he).trans hl) id
      dsimp only
      rw [same, ← unsent_some he]
      exact wellQueued_unsent h
    · obtain ⟨plain, states⟩ := ringInv_load h he hl
      refine ringInv_loading rfl rfl ?_ states
      dsimp only
      rw [same]
      exact plain

theorem ringInv_sendNext {s : State} (h : RingInv s) : RingInv s.sendNext := by
  rcases candidate_cases s.link with ⟨hc, -, -⟩ | ⟨f, rest, hc, hf, hw⟩ | ⟨q, rest, hc, hi, -⟩
  · rw [sendNext_none hc]
    exact h
  · rw [sendNext_forward hc]
    exact keeps_ite h (ringInv_congr h rfl rfl fun _ => rfl)
  · rw [sendNext_injected hc]
    refine keeps_ite h ?_
    rcases he : s.ring.executing with _ | c
    · rw [h.idle he] at hi
      cases hi
    · have whole : unsent s = q :: (rest ++ c.offers) := by
        rw [unsent_some he, hi]
        rfl
      have next : RingInv { s with link := s.link.sendInjected q rest } := by
        rcases hl : c.load with _ | l
        · refine ringInv_executing (c := c) he hl ?_ fun id => ringInv_quiet h ((load_some he).trans hl) id
          refine wellQueued_sublist (wellQueued_unsent h) ?_
          rw [whole]
          exact List.sublist_cons_self q _
        · obtain ⟨plain, states⟩ := ringInv_load h he hl
          refine ringInv_loading (c := c) he hl (fun p hp => plain p ?_) states
          rw [← unsent_some he, whole]
          exact List.mem_cons_of_mem q hp
      rcases hpurpose : q.purpose with _ | word | id
      all_goals dsimp only
      case data => exact next
      case fetch => exact next
      · have status : isStatus q := ⟨word, hpurpose⟩
        have ends : rest ++ c.offers = [] := h.last [] q _ whole status
        have quiet : s.load = none := by
          by_contra hn
          exact h.loading hn q (by rw [whole]; exact List.mem_cons_self) status
        exact ringInv_idle rfl (List.append_eq_nil_iff.1 ends).1 fun id => ringInv_quiet h quiet id

theorem ringInv_link {s : State} {k : LinkPath} (h : RingInv s) (hk : k.injected = s.link.injected) :
    RingInv { s with link := k } := ringInv_congr h hk rfl fun _ => rfl

/-! ### Requests and returns -/

theorem ringInv_handWrite (id : BitVec 6) (a : Nat) (b : WriteBeat) (m : RequestMarks) {s : State} (h : RingInv s) :
    RingInv (s.handWrite id a b m).2 := by
  unfold State.handWrite
  split
  · unfold State.captureBeat
    split
    · exact ringInv_congr h rfl rfl fun _ => rfl
    · exact h
  · exact ringInv_of_outside (outside_writeBeat _ m s) (by decide) h
  · exact h

theorem ringInv_handWrites (r : Request) (bs : List WriteBeat) (k : Nat) (m : RequestMarks) {s : State} (h : RingInv s) :
    RingInv (s.handWrites r bs k m) := by
  induction bs generalizing k m s with
  | nil => exact h
  | cons b rest ih => exact ih _ _ (ringInv_handWrite _ _ _ _ h)

theorem ringInv_receive (r : Request) {s : State} (h : RingInv s) : RingInv (s.receive r) := by
  have enqueued : RingInv (s.enqueue r) := ringInv_link h rfl
  unfold State.receive
  split
  · exact ringInv_handWrites r _ _ _ enqueued
  · exact ringInv_of_outside (outside_handReads _ _) (by decide) enqueued

theorem ringInv_returnUpstream (c : ReadClass) (data : Beat) {s : State} (h : RingInv s) : RingInv (s.returnUpstream c data) := by
  unfold State.returnUpstream
  refine keeps_ite (ringInv_of_outside (outside_setFlagIf _ _ _) (by decide) ?_) h
  exact ringInv_link h rfl

theorem ringInv_routeReturn (e : Tracked) (rest : List Tracked) (data : Beat) {s : State} (h : RingInv s) :
    RingInv (s.routeReturn e rest data) := by
  have counted : RingInv { s with link := { s.link with tracking := countReturn e rest } } := ringInv_link h rfl
  unfold State.routeReturn
  dsimp only
  split
  · exact ringInv_returnUpstream _ data counted
  · unfold State.fetchReturn
    split
    · unfold State.fetchBeat
      split
      · exact counted
      · next c he =>
        split
        · exact counted
        · next l hl =>
          split
          · exact counted
          · next b crc kept hp => exact keeps_ite (ringInv_takeFetchBeat h data he hl hp) counted
    · exact counted
    · exact counted

/-! ### The commands of the ring (R152 to R154) -/

/-- A command has begun: nothing of it waits yet, and no table is LOADING. -/
structure Begins (s : State) : Prop where
  executing : ∃ c, s.ring.executing = some c ∧ c.load = none ∧ c.offers = []
  injected : s.link.injected = []
  tables : ∀ id, s.tables.stateOf id ≠ .loading

theorem begins_beginCommand {s : State} (h : RingInv s) (he : s.ring.executing = none) (snap : BitVec 1024) :
    Begins (s.beginCommand snap) :=
  ⟨⟨_, rfl, rfl, rfl⟩, h.idle he, fun id => ringInv_quiet h (load_none he) id⟩

theorem begins_of_outside {ps : List Piece} {s t : State} (h : Begins s) (ho : Outside ps s t)
    (hp : Piece.link ∉ ps ∧ Piece.ring ∉ ps ∧ Piece.tables ∉ ps) : Begins t := by
  refine ⟨?_, ?_, ?_⟩
  · rw [ho .ring hp.2.1]
    exact h.executing
  · rw [ho .link hp.1]
    exact h.injected
  · rw [ho .tables hp.2.2]
    exact h.tables

theorem ringInv_answered {s : State} (h : Begins s) {data : List Injected} (hq : ∀ q ∈ data, Plain q) (a : Answer) :
    RingInv (s.answer data a) := by
  obtain ⟨c, he, -⟩ := h.executing
  refine ringInv_answer he ?_ h.tables a
  rw [h.injected]
  exact hq

theorem ringInv_answeredBare {s : State} (h : Begins s) (a : Answer) : RingInv (s.answer [] a) :=
  ringInv_answered h (by simp) a

/-- A command of the ring keeps the agreement if its body makes it hold of a command that has begun. -/
theorem ringInv_runCommand (r : Row) {body : BitVec 1024 → State → State} (hb : ∀ snap u, Begins u → RingInv (body snap u))
    {s : State} (h : RingInv s) : RingInv (s.runCommand r body) := by
  unfold State.runCommand
  split
  · exact h
  · next snap hr =>
    have idle : s.ring.executing = none := by
      unfold State.readyCommand at hr
      split at hr
      · next ready => exact ready.2.1
      · cases hr
    have begun := begins_beginCommand h idle snap
    refine keeps_ite ?_ h
    split
    · exact ringInv_answeredBare begun _
    · exact hb snap _ begun

theorem plain_statusBlockWrite (address : Nat) (block : BitVec 2048) : Plain (statusBlockWrite address block) :=
  ⟨rfl, fun ⟨w, e⟩ => by cases e⟩

theorem plain_eventWrites (address : Nat) (records : List Event) (n : Nat) : ∀ q ∈ eventWrites address records n, Plain q := by
  intro q hq
  obtain ⟨i, -, rfl⟩ := List.mem_map.1 hq
  exact ⟨rfl, fun ⟨w, e⟩ => by cases e⟩

theorem begins_replaceGrid (g : Grid) {s : State} (h : Begins s) : Begins (s.replaceGrid g) := by
  unfold State.replaceGrid
  refine begins_of_outside ?_ (outside_forLines (fun l t => outside_modifyLine l clearSuspects t) _) (by decide)
  refine ⟨h.executing, h.injected, fun id => ?_⟩
  cases id
  case zoneMap => nofun
  case calibration => nofun
  case lineSetup => exact h.tables .lineSetup
  case setA => exact h.tables .setA
  case setB => exact h.tables .setB
  case limits => exact h.tables .limits

theorem ringInv_runLoadTable (snap : BitVec 1024) {s : State} (h : Begins s) : RingInv (s.runLoadTable snap) := by
  unfold State.runLoadTable
  split
  · exact ringInv_answeredBare h _
  · split
    · exact ringInv_answeredBare h _
    · obtain ⟨c, he, -⟩ := h.executing
      rw [setLoad_eq he]
      refine ringInv_loading rfl rfl ?_ fun id => ⟨fun e => absurd e (h.tables id), fun ⟨_, b, crc, kept, e⟩ => ?_⟩
      · show ∀ q ∈ s.link.injected ++ [], Plain q
        rw [h.injected]
        simp
      · cases e

theorem ringInv_runBacklightOn (snap : BitVec 1024) {s : State} (h : Begins s) : RingInv (s.runBacklightOn snap) := by
  have answers := fun {t : State} (ht : Begins t) a => ringInv_answeredBare ht a
  have target : Begins (s.setTarget true) := begins_of_outside h (outside_setTarget true s) (by decide)
  unfold State.runBacklightOn State.backlightOn
  refine keeps_ite ?_ (answers h _)
  split
  · split
    · exact answers h _
    · exact answers (begins_of_outside target (outside_powerUpBegin _) (by decide)) _
  · exact answers target _
  · exact answers target _
  · exact answers h _
  · exact keeps_ite (answers h _) (answers h _)
  · exact answers h _

/-! ### Every command -/

theorem ringInv_exec {c : Instr} {s t : State} (hs : RingInv s) (h : exec c s = .next t) : RingInv t := by
  have whenLive {f : State → State} (hf : ∀ s, RingInv s → RingInv (f s)) (e : (.next (s.whenLive f) : Out) = .next t) :
      RingInv t := by
    cases e
    exact keeps_whenLive hf hs
  have runs {r : Row} {body : BitVec 1024 → State → State} (hb : ∀ snap u, Begins u → RingInv (body snap u))
      (e : (.next (s.runCommand r body) : Out) = .next t) : RingInv t := by
    cases e
    exact ringInv_runCommand r hb hs
  have answers {u : State} (hu : Begins u) (a : Answer) : RingInv (u.answer [] a) := ringInv_answeredBare hu a
  have after {ps : List Piece} {u v : State} (hu : Begins u) (ho : Outside ps u v)
      (hp : Piece.link ∉ ps ∧ Piece.ring ∉ ps ∧ Piece.tables ∉ ps) (a : Answer) : RingInv (v.answer [] a) :=
    ringInv_answeredBare (begins_of_outside hu ho hp) a
  cases c
  case requestReceived r =>
    refine whenLive (fun s hs => keeps_ite hs (keeps_ite ?_ (ringInv_receive r hs))) h
    exact ringInv_link hs rfl
  case downstreamSend => exact whenLive (fun s hs => keeps_ite (ringInv_sendNext hs) hs) h
  case injectedRequestOffer => exact whenLive (fun s hs => keeps_ite (ringInv_offerNext hs) hs) h
  case returnBeatReceived data =>
    refine whenLive (fun s hs => keeps_ite hs ?_) h
    split
    · exact ringInv_downstreamDown hs
    · exact ringInv_routeReturn _ _ data hs
  case upstreamLinkDown =>
    refine whenLive (fun s hs => ?_) h
    exact ringInv_link hs rfl
  case upstreamLinkUp =>
    refine whenLive (fun s hs => ?_) h
    exact ringInv_link hs rfl
  case downstreamLinkDown => exact whenLive (fun s hs => ringInv_downstreamDown hs) h
  case downstreamLinkUp =>
    refine whenLive (fun s hs => ?_) h
    exact ringInv_link hs rfl
  case resetAsserted =>
    cases h
    exact ⟨ringInv_reset.idle, ringInv_reset.requester, ringInv_reset.last, ringInv_reset.loading, ringInv_reset.tables⟩
  case tableLoadBegin =>
    refine whenLive (fun s hs => ?_) h
    split
    · exact hs
    · next l hl =>
      split
      · next hp => exact keeps_ite (ringInv_beginLoad hs hl hp) hs
      · exact hs
  case window =>
    refine runs (fun snap u hu => ?_) h
    unfold State.runWindow
    split
    · exact answers hu _
    · split
      · exact answers hu _
      · exact after hu (outside_describeWindow _ _ u) (by decide) _
  case windowOff =>
    refine runs (fun snap u hu => ?_) h
    unfold State.runWindowOff
    split
    · exact answers hu _
    · exact keeps_ite (answers hu _) (after hu (outside_disableWindow _ u) (by decide) _)
  case setGrid =>
    refine runs (fun snap u hu => ?_) h
    unfold State.runSetGrid
    split
    · exact answers hu _
    · exact answers (begins_replaceGrid _ hu) _
  case selectSet =>
    refine runs (fun snap u hu => ?_) h
    unfold State.runSelectSet
    split
    · exact after hu (outside_selectSet _ u) (by decide) _
    · exact after hu (outside_selectSet _ u) (by decide) _
    · exact answers hu _
  case backlightOn => exact runs (fun snap u hu => ringInv_runBacklightOn snap hu) h
  case backlightOff =>
    exact runs (fun snap u hu => keeps_ite (after hu (outside_backlightOff u) (by decide) _) (answers hu _)) h
  case loadTable => exact runs (fun snap u hu => ringInv_runLoadTable snap hu) h
  case readStatus =>
    refine runs (fun snap u hu => keeps_ite (ringInv_answered ?_ ?_ _) (answers hu _)) h
    · exact keeps_ite (begins_of_outside hu (outside_accrued u 0) (by decide)) hu
    · intro q hq
      rw [List.mem_singleton.1 hq]
      exact plain_statusBlockWrite _ _
  case readEvents =>
    refine runs (fun snap u hu => keeps_ite (answers hu _) (ringInv_answered ?_ (plain_eventWrites _ _ _) _)) h
    exact begins_of_outside (begins_of_outside hu (outside_events u (u.events.drop _)) (by decide))
      (outside_freeCount { u with events := u.events.drop _ } (u.freeCount + 1)) (by decide)
  case clearFaultLine =>
    refine runs (fun snap u hu => keeps_ite ?_ (answers hu _)) h
    split
    · exact answers hu _
    · exact after hu (outside_clearLine _ u) (by decide) _
  case clearFaultZones =>
    exact runs (fun snap u hu => keeps_ite (after hu (outside_clearZones u) (by decide) _) (answers hu _)) h
  case clearFaultProtection =>
    exact runs (fun snap u hu => keeps_ite (after hu (outside_clearProtection u) (by decide) _) (answers hu _)) h
  case badCommand =>
    refine runs (fun snap u hu => ?_) h
    obtain ⟨c, he, hl, ho⟩ := hu.executing
    refine ringInv_executing he hl (wellQueued_plain ?_) hu.tables
    rw [hu.injected, ho]
    simp
  all_goals exact ringInv_of_outside (exec_outside h) (by simp [touched]) hs

/-- Settles O60: every command keeps the agreement (`ringInv_exec`), so every step does. -/
theorem ringAndTablesAgree : Obligations.RingAndTablesAgree := fun _ _ hs h =>
  step_keeps (fun _ _ hs => ⟨hs.idle, hs.requester, hs.last, hs.loading, hs.tables⟩) (fun _ _ _ => ringInv_exec) hs h

end Sys2Proof.Laws
end

section
/-! SUPPORT. The agreement of windows, buffers, banks, analysis queue, engine, result slots and scan (section 2.1, R27, R36,
R53, R76, R81) over every command. -/

namespace Sys2Proof.Laws

-- Each proof may wait for an earlier one; run one after another they need no thread each.
set_option Elab.async false

open Sys2Proof Sys2Proof.Machine Sys2Proof.Safety

/-! ### The agreement, and what it looks at -/

/-- Windows, buffers, banks, queue, engine, slots and scan agree. -/
def Agree (s : State) : Prop := BufferInv s ∧ ScanInv s

theorem bufferInv_congr {s t : State} (h : BufferInv s) (hw : t.windows = s.windows)
    (hb : ∀ w : WindowNo, t.buffers[w].state = s.buffers[w].state) (hq : t.queue = s.queue) (ha : t.engine.analysis = s.engine.analysis)
    (hr : t.scan.result = s.scan.result ∨ t.scan.result = none) : BufferInv t := by
  obtain ⟨enabled, banks, slots, once, queued, analysing, own⟩ := h
  refine ⟨fun w => by rw [hw, hb]; exact enabled w, fun v w b => by rw [hb, hb]; exact banks v w b,
    fun v w k => by rw [hb, hb]; exact slots v w k, by rw [hq]; exact once, fun w => by rw [hq, hb]; exact queued w,
    fun w b => by rw [hb, ha]; exact analysing w b, fun a e => ?_⟩
  obtain ⟨buffers, scan⟩ := own a (ha.symm.trans e)
  refine ⟨fun w => by rw [hb]; exact buffers w, ?_⟩
  rcases hr with hr | hr
  · rw [hr]
    exact scan
  · rw [hr]
    nofun

/-- The counts of the scan go with its fallback state and supervision timer whatever they are. -/
theorem scanInv_congr {s t : State} (h : ScanInv s) (hs : ∃ f v, t.scan = { s.scan with fallback := f, supervision := v })
    (hg : t.grid = s.grid) (hb : ∀ w : WindowNo, s.buffers[w].state ≠ .disabled → t.buffers[w].state ≠ .disabled) :
    ScanInv t := by
  obtain ⟨f, v, hs⟩ := hs
  obtain ⟨pointer, idle, passed, held, committed⟩ := h
  refine ⟨fun w e => hb w (pointer w ?_), ?_, ?_, ?_, ?_⟩
  all_goals rw [hs] at *
  · exact e
  · exact idle
  · rw [hg]
    exact passed
  · exact held
  · exact committed

theorem agree_congr {s t : State} (h : Agree s) (hw : t.windows = s.windows)
    (hb : ∀ w : WindowNo, t.buffers[w].state = s.buffers[w].state) (hq : t.queue = s.queue)
    (ha : t.engine.analysis = s.engine.analysis) (hg : t.grid = s.grid)
    (hs : ∃ f v, t.scan = { s.scan with fallback := f, supervision := v }) : Agree t := by
  refine ⟨bufferInv_congr h.1 hw hb hq ha (Or.inl ?_), scanInv_congr h.2 hs hg fun w => by rw [hb]; exact id⟩
  obtain ⟨f, v, hs⟩ := hs
  rw [hs]

/-- Whether a command that touches the pieces touches none that the agreement looks at. -/
abbrev AgreeFree (ps : List Piece) : Prop :=
  Piece.windows ∉ ps ∧ Piece.buffers ∉ ps ∧ Piece.queue ∉ ps ∧ Piece.engine ∉ ps ∧ Piece.grid ∉ ps ∧ Piece.scan ∉ ps

theorem agree_of_outside {ps : List Piece} {s t : State} (ho : Outside ps s t) (hp : AgreeFree ps) (h : Agree s) : Agree t := by
  obtain ⟨hw, hb, hq, he, hg, hs⟩ := hp
  exact agree_congr h (ho .windows hw) (fun w => by rw [ho .buffers hb]) (ho .queue hq) (congrArg Engine.analysis (ho .engine he))
    (ho .grid hg) ⟨_, _, ho .scan hs⟩

/-- No scan runs, and its counts are 0. -/
def Ended (x : ScanTracker) : Prop :=
  x.pointer = none ∧ x.result = none ∧ x.progress = 0 ∧ x.passed = 0 ∧ x.committed = 0

/-- A scan that has ended agrees with any buffers. -/
theorem scanInv_ended {t : State} (h : Ended t.scan) : ScanInv t := by
  obtain ⟨pointer, result, progress, passed, committed⟩ := h
  refine ⟨fun w e => ?_, fun _ => ⟨result, progress, passed, committed⟩, ?_, fun _ => committed, fun hn => absurd result hn⟩
  · rw [pointer] at e
    cases e
  · rw [passed]
    exact Nat.zero_le _

/-! ### One buffer changes its state -/

/-- Buffer `w` of `s` takes the state `x`: what else has to hold for the agreement to be kept. -/
structure Moved (s t : State) (w : WindowNo) (x : BufferState) : Prop where
  buffers : ∀ v : WindowNo, t.buffers[v].state = if v = w then x else s.buffers[v].state
  enabled : t.windows[w].enable = true ↔ x ≠ .disabled
  windows : ∀ v : WindowNo, v ≠ w → t.windows[v].enable = s.windows[v].enable
  bank : ∀ b, x.bank = some b → ∀ v : WindowNo, v ≠ w → s.buffers[v].state.bank ≠ some b
  slot : ∀ k, x.result = some k → ∀ v : WindowNo, v ≠ w → s.buffers[v].state.result ≠ some k
  once : t.queue.Nodup
  others : ∀ v, v ≠ w → (v ∈ t.queue ↔ v ∈ s.queue)
  queued : w ∈ t.queue ↔ ∃ b, x = .queued b
  analyses : ∀ a, a.buffer ≠ w → (t.engine.analysis = some a ↔ s.engine.analysis = some a)
  analysing : ∀ b, x = .analysing b ↔ ∃ a, t.engine.analysis = some a ∧ a.buffer = w ∧ a.bank = b
  own : ∀ a, t.engine.analysis = some a →
    (∀ v : WindowNo, v ≠ w → s.buffers[v].state.result ≠ some a.slot) ∧ x.result ≠ some a.slot ∧ t.scan.result ≠ some a.slot

theorem Moved.same {s t : State} {w : WindowNo} {x : BufferState} (m : Moved s t w x) : t.buffers[w].state = x := by
  rw [m.buffers, if_pos rfl]

theorem Moved.other {s t : State} {w v : WindowNo} {x : BufferState} (m : Moved s t w x) (h : v ≠ w) :
    t.buffers[v].state = s.buffers[v].state := by
  rw [m.buffers, if_neg h]

theorem bufferInv_moved {s t : State} {w : WindowNo} {x : BufferState} (h : BufferInv s) (m : Moved s t w x) : BufferInv t := by
  refine ⟨fun v => ?_, fun u v b hu hv => ?_, fun u v k hu hv => ?_, m.once, fun v => ?_, fun v b => ?_, fun a ha => ?_⟩
  · by_cases e : v = w
    · rw [e, m.same]
      exact m.enabled
    · rw [m.other e, m.windows v e]
      exact h.enabled v
  · by_cases eu : u = w <;> by_cases ev : v = w
    · rw [eu, ev]
    · rw [eu, m.same] at hu
      rw [m.other ev] at hv
      exact absurd hv (m.bank b hu v ev)
    · rw [ev, m.same] at hv
      rw [m.other eu] at hu
      exact absurd hu (m.bank b hv u eu)
    · rw [m.other eu] at hu
      rw [m.other ev] at hv
      exact h.banks u v b hu hv
  · by_cases eu : u = w <;> by_cases ev : v = w
    · rw [eu, ev]
    · rw [eu, m.same] at hu
      rw [m.other ev] at hv
      exact absurd hv (m.slot k hu v ev)
    · rw [ev, m.same] at hv
      rw [m.other eu] at hu
      exact absurd hu (m.slot k hv u eu)
    · rw [m.other eu] at hu
      rw [m.other ev] at hv
      exact h.slots u v k hu hv
  · by_cases e : v = w
    · rw [e, m.same]
      exact m.queued
    · rw [m.other e, m.others v e]
      exact h.queued v
  · by_cases e : v = w
    · rw [e, m.same]
      exact m.analysing b
    · rw [m.other e, h.analysing v b]
      refine exists_congr fun a => and_congr_left fun ha => (m.analyses a ?_).symm
      rw [ha.1]
      exact e
  · obtain ⟨others, new, scan⟩ := m.own a ha
    refine ⟨fun v => ?_, scan⟩
    by_cases e : v = w
    · rw [e, m.same]
      exact new
    · rw [m.other e]
      exact others v e

/-- Buffer `w` takes a state in which it neither waits nor is analysed; the queue and the engine no longer have it. -/
structure Released (s t : State) (w : WindowNo) (x : BufferState) : Prop where
  buffers : ∀ v : WindowNo, t.buffers[v].state = if v = w then x else s.buffers[v].state
  enabled : t.windows[w].enable = true ↔ x ≠ .disabled
  windows : ∀ v : WindowNo, v ≠ w → t.windows[v].enable = s.windows[v].enable
  bank : ∀ b, x.bank = some b → ∀ v : WindowNo, v ≠ w → s.buffers[v].state.bank ≠ some b
  slot : ∀ k, x.result = some k → ∀ v : WindowNo, v ≠ w → s.buffers[v].state.result ≠ some k
  once : t.queue.Nodup
  queue : ∀ v, v ∈ t.queue ↔ v ∈ s.queue ∧ v ≠ w
  analysis : ∀ a, t.engine.analysis = some a ↔ s.engine.analysis = some a ∧ a.buffer ≠ w
  quiet : ∀ b, x ≠ .queued b ∧ x ≠ .analysing b
  own : ∀ a, t.engine.analysis = some a → x.result ≠ some a.slot ∧ t.scan.result ≠ some a.slot

theorem bufferInv_released {s t : State} {w : WindowNo} {x : BufferState} (h : BufferInv s) (m : Released s t w x) :
    BufferInv t := by
  refine bufferInv_moved (w := w) (x := x) h ⟨m.buffers, m.enabled, m.windows, m.bank, m.slot, m.once, fun v hv => ?_, ?_,
    fun a ha => ?_, fun b => ?_, fun a ha => ?_⟩
  · rw [m.queue]
    exact and_iff_left hv
  · rw [m.queue]
    exact iff_of_false (fun e => e.2 rfl) fun ⟨b, e⟩ => (m.quiet b).1 e
  · rw [m.analysis]
    exact and_iff_left ha
  · refine iff_of_false (m.quiet b).2 ?_
    rintro ⟨a, e, hw, -⟩
    exact ((m.analysis a).1 e).2 hw
  · obtain ⟨new, scan⟩ := m.own a ha
    exact ⟨fun v _ => (h.own a ((m.analysis a).1 ha).1).1 v, new, scan⟩

/-! ### What a buffer's own state says of queue and engine -/

theorem mem_queue_elsewhere {s : State} (h : BufferInv s) (w : WindowNo) (hw : ∀ b, s.buffers[w].state ≠ .queued b) (v : WindowNo) :
    v ∈ s.queue ↔ v ∈ s.queue ∧ v ≠ w := by
  refine ⟨fun hv => ⟨hv, ?_⟩, And.left⟩
  rintro rfl
  obtain ⟨b, e⟩ := (h.queued v).1 hv
  exact hw b e

theorem analysis_elsewhere {s : State} (h : BufferInv s) (w : WindowNo) (hw : ∀ b, s.buffers[w].state ≠ .analysing b)
    (a : Analysis) : s.engine.analysis = some a ↔ s.engine.analysis = some a ∧ a.buffer ≠ w := by
  refine ⟨fun ha => ⟨ha, ?_⟩, And.left⟩
  rintro rfl
  exact hw a.bank ((h.analysing a.buffer a.bank).2 ⟨a, ha, rfl, rfl⟩)

/-- The one analysis is of an ANALYSING buffer. -/
theorem analysis_of_analysing {s : State} (h : BufferInv s) {w : WindowNo} {b : BankNo} (hw : s.buffers[w].state = .analysing b)
    (a : Analysis) : none = some a ↔ s.engine.analysis = some a ∧ a.buffer ≠ w := by
  obtain ⟨c, hc, hbuffer, -⟩ := (h.analysing w b).1 hw
  refine iff_of_false nofun ?_
  rintro ⟨ha, hne⟩
  cases hc.symm.trans ha
  exact hne hbuffer

theorem freeBank_free {s : State} {b : BankNo} (h : s.freeBank = some b) (v : WindowNo) : s.buffers[v].state.bank ≠ some b := by
  have free := List.find?_some h
  intro e
  have held : s.bankHeld b = true := List.any_eq_true.2 ⟨v, List.mem_finRange v, beq_iff_eq.2 e⟩
  simp [held] at free

/-! ### Counting writes (R25 to R36) -/

theorem mem_begunQueue {s : State} (h : BufferInv s) (w v : WindowNo) : v ∈ begunQueue s w ↔ v ∈ s.queue ∧ v ≠ w := by
  unfold begunQueue
  split
  · rw [List.mem_filter, decide_eq_true_iff]
  · next hn => exact mem_queue_elsewhere h w hn v

theorem begunEngine_analysis {s : State} (h : BufferInv s) (w : WindowNo) (a : Analysis) :
    (begunEngine s w).analysis = some a ↔ s.engine.analysis = some a ∧ a.buffer ≠ w := by
  unfold begunEngine
  split
  · next b hb => exact analysis_of_analysing h hb a
  · next hn => exact analysis_elsewhere h w hn a

theorem begunState_bank {s : State} (h : BufferInv s) (w : WindowNo) (b : BankNo) (hb : (begunState s w).bank = some b)
    (v : WindowNo) (hv : v ≠ w) : s.buffers[v].state.bank ≠ some b := by
  have claims (e : (claimed s).bank = some b) : s.buffers[v].state.bank ≠ some b := by
    unfold claimed at e
    rcases hf : s.freeBank with _ | c
    · rw [hf] at e
      cases e
    · rw [hf] at e
      cases e
      exact freeBank_free hf v
  have keeps (e : s.buffers[w].state.bank = some b) : s.buffers[v].state.bank ≠ some b := fun f => hv (h.banks v w b f e)
  unfold begunState at hb
  rcases hs : s.buffers[w].state with _ | _ | k | _ | k | k | k | k
  all_goals rw [hs] at hb keeps
  case disabled | blind => cases hb
  case filling | queued | analysing => exact keeps hb
  case idle | ready | shown => exact claims hb

theorem agree_begun {s t : State} {w : WindowNo} (h : Agree s) (hd : s.buffers[w].state ≠ .disabled) (b : Begun s t w)
    (ho : Outside countPieces s t) : Agree t := by
  obtain ⟨inv, scan⟩ := h
  have windows : t.windows = s.windows := ho .windows (by decide)
  have tracker : t.scan = s.scan := ho .scan (by decide)
  have states (v : WindowNo) : t.buffers[v].state = if v = w then begunState s w else s.buffers[v].state := by
    rw [b.buffers, buffers_set_get]
    split <;> rfl
  have counting := begunState_counting s w hd
  have lit : begunState s w ≠ .disabled := by
    rcases counting with ⟨k, e⟩ | e <;> rw [e] <;> nofun
  have bare : (begunState s w).result = none := by
    rcases counting with ⟨k, e⟩ | e <;> rw [e] <;> rfl
  refine ⟨bufferInv_released inv (w := w) (x := begunState s w) ⟨states, ?_, fun v _ => by rw [windows],
    begunState_bank inv w, fun k e => ?_, ?_, fun v => ?_, fun a => ?_, fun k => ?_, fun a ha => ⟨?_, ?_⟩⟩, ?_⟩
  · rw [windows]
    exact iff_of_true ((inv.enabled w).2 hd) lit
  · rw [bare] at e
    cases e
  · rw [b.queue]
    unfold begunQueue
    split
    · exact inv.once.filter _
    · exact inv.once
  · rw [b.queue]
    exact mem_begunQueue inv w v
  · rw [b.engine]
    exact begunEngine_analysis inv w a
  · rcases counting with ⟨j, e⟩ | e <;> rw [e] <;> exact ⟨nofun, nofun⟩
  · rw [bare]
    nofun
  · rw [tracker]
    rw [b.engine, begunEngine_analysis inv w a] at ha
    exact (inv.own a ha.1).2
  · refine scanInv_congr scan ⟨_, _, tracker⟩ (ho .grid (by decide)) fun v hv => ?_
    rw [states]
    split
    · exact lit
    · exact hv

theorem agree_beginCounting (w : WindowNo) {s : State} (h : Agree s) : Agree (s.beginCounting w) := by
  by_cases hd : s.buffers[w].state = .disabled
  · have same : s.beginCounting w = s := by
      unfold State.beginCounting
      rw [hd]
    rw [same]
    exact h
  · exact agree_begun h hd (beginCounting_spec s w hd) (outside_beginCounting w s)

/-- The last beat of a frame in a FILLING buffer: the buffer joins the queue (R34). -/
theorem agree_countBeat_queued {s : State} (h : Agree s) {c : WriteClass} {k : BankNo}
    (hs : s.buffers[c.window].state = .filling k)
    (full : s.windows[c.window].area ≤ s.buffers[c.window].written + c.wholeWords.length) : Agree (s.countBeat c) := by
  obtain ⟨inv, scan⟩ := h
  obtain ⟨buffers, queue, -, frame⟩ := countBeat_filling_spec hs
  rw [if_pos full] at buffers queue
  generalize s.countBeat c = t at *
  have windows : t.windows = s.windows := frame .windows (by decide)
  have tracker : t.scan = s.scan := frame .scan (by decide)
  have engine : t.engine = s.engine := frame .engine (by decide)
  have states (v : WindowNo) : t.buffers[v].state = if v = c.window then .queued k else s.buffers[v].state := by
    rw [buffers, buffers_set_get]
    split <;> rfl
  have lit : s.buffers[c.window].state ≠ .disabled := by
    rw [hs]
    nofun
  have absent : c.window ∉ s.queue := fun e => by
    obtain ⟨b, e⟩ := (inv.queued _).1 e
    rw [hs] at e
    cases e
  have idle : ∀ b, s.buffers[c.window].state ≠ .analysing b := fun b => by
    rw [hs]
    nofun
  refine ⟨bufferInv_moved inv (w := c.window) (x := .queued k) ⟨states, ?_, fun v _ => by rw [windows], fun b e v hv f => ?_,
    nofun, ?_, fun v hv => ?_, ?_, fun a _ => by rw [engine], fun b => ?_, fun a ha => ?_⟩, ?_⟩
  · rw [windows]
    exact iff_of_true ((inv.enabled _).2 lit) nofun
  · cases e
    exact hv (inv.banks v c.window k f (by rw [hs]; rfl))
  · rw [queue]
    exact inv.once.append (List.nodup_singleton _) (List.disjoint_singleton.2 absent)
  · rw [queue, List.mem_append, List.mem_singleton]
    exact or_iff_left hv
  · rw [queue]
    exact iff_of_true (List.mem_append_right _ (List.mem_singleton_self _)) ⟨k, rfl⟩
  · refine iff_of_false nofun ?_
    rintro ⟨a, ha, hw, -⟩
    rw [engine] at ha
    exact ((analysis_elsewhere inv c.window idle a).1 ha).2 hw
  · rw [engine] at ha
    rw [tracker]
    exact ⟨fun v _ => (inv.own a ha).1 v, nofun, (inv.own a ha).2⟩
  · refine scanInv_congr scan ⟨_, _, tracker⟩ (frame .grid (by decide)) fun v hv => ?_
    rw [states]
    split
    · nofun
    · exact hv

/-- The last beat of a frame of a BLIND buffer: the buffer is IDLE (R35). -/
theorem agree_countBeat_ended {s : State} (h : Agree s) {c : WriteClass} (hs : s.buffers[c.window].state = .blind)
    (full : s.windows[c.window].area ≤ s.buffers[c.window].written + c.wholeWords.length) : Agree (s.countBeat c) := by
  obtain ⟨inv, scan⟩ := h
  obtain ⟨buffers, -, frame⟩ := countBeat_blind_spec hs
  rw [if_pos full] at buffers
  generalize s.countBeat c = t at *
  have windows : t.windows = s.windows := frame .windows (by decide)
  have tracker : t.scan = s.scan := frame .scan (by decide)
  have engine : t.engine = s.engine := frame .engine (by decide)
  have queue : t.queue = s.queue := frame .queue (by decide)
  have states (v : WindowNo) : t.buffers[v].state = if v = c.window then .idle else s.buffers[v].state := by
    rw [buffers, buffers_set_get]
    split <;> rfl
  refine ⟨bufferInv_released inv (w := c.window) (x := .idle) ⟨states, ?_, fun v _ => by rw [windows], nofun,
    nofun, ?_, fun v => ?_, fun a => ?_, fun b => ⟨nofun, nofun⟩, fun a ha => ⟨nofun, ?_⟩⟩, ?_⟩
  · rw [windows]
    refine iff_of_true ((inv.enabled _).2 ?_) nofun
    rw [hs]
    nofun
  · rw [queue]
    exact inv.once
  · rw [queue]
    exact mem_queue_elsewhere inv c.window (fun b => by rw [hs]; nofun) v
  · rw [engine]
    exact analysis_elsewhere inv c.window (fun b => by rw [hs]; nofun) a
  · rw [engine] at ha
    rw [tracker]
    exact (inv.own a ha).2
  · refine scanInv_congr scan ⟨_, _, tracker⟩ (frame .grid (by decide)) fun v hv => ?_
    rw [states]
    split
    · nofun
    · exact hv

theorem agree_countBeat (c : WriteClass) {s : State} (h : Agree s) : Agree (s.countBeat c) := by
  by_cases full : s.windows[c.window].area ≤ s.buffers[c.window].written + c.wholeWords.length
  · rcases hs : s.buffers[c.window].state with _ | _ | k | _ | k | k | k | k
    case filling => exact agree_countBeat_queued h hs full
    case blind => exact agree_countBeat_ended h hs full
    all_goals
      rw [countBeat_other (by rw [hs]; rfl)]
      exact h
  · by_cases hc : s.buffers[c.window].state.counting = true
    · have counts : (∃ k, s.buffers[c.window].state = .filling k) ∨ s.buffers[c.window].state = .blind := by
        rcases hs : s.buffers[c.window].state with _ | _ | k | _ | k | k | k | k
        case filling => exact Or.inl ⟨k, rfl⟩
        case blind => exact Or.inr rfl
        all_goals
          rw [hs] at hc
          cases hc
      obtain ⟨buffers, queue, -, frame⟩ := countBeat_incomplete counts (Nat.not_le.1 full)
      refine agree_congr h (frame .windows (by decide)) (fun v => ?_) queue (congrArg Engine.analysis (frame .engine (by decide)))
        (frame .grid (by decide)) ⟨_, _, frame .scan (by decide)⟩
      rw [buffers, buffers_set_get]
      split
      · next e => rw [e]
      · rfl
    · rw [countBeat_other (Bool.not_eq_true _ ▸ hc)]
      exact h

theorem agree_writeBeat (c : WriteClass) (m : RequestMarks) {s : State} (h : Agree s) : Agree (s.writeBeat c m).2 := by
  have flagged := agree_of_outside (outside_setFlagIf c.hasPartial .partialPixel s) (by decide) h
  rcases hp : c.writerPass with _ | _
  · rw [writeBeat_filtered hp]
    exact h
  · by_cases hn : c.wholeWords = [] ∨ c.window ∈ m.finished
    · rw [writeBeat_ignored hp hn]
      exact flagged
    · obtain ⟨whole, unfinished⟩ := not_or.1 hn
      rw [writeBeat_counts hp whole unfinished]
      exact agree_countBeat c (keeps_ite flagged (agree_beginCounting c.window flagged))

theorem agree_handWrite (id : BitVec 6) (a : Nat) (b : WriteBeat) (m : RequestMarks) {s : State} (h : Agree s) :
    Agree (s.handWrite id a b m).2 := by
  unfold State.handWrite
  split
  · exact agree_of_outside (outside_captureBeat _ _ s) (by decide) h
  · exact agree_writeBeat _ m h
  · exact h

theorem agree_handWrites (r : Request) (bs : List WriteBeat) (k : Nat) (m : RequestMarks) {s : State} (h : Agree s) :
    Agree (s.handWrites r bs k m) := by
  induction bs generalizing k m s with
  | nil => exact h
  | cons b rest ih => exact ih _ _ (agree_handWrite _ _ _ _ h)

/-! ### Scans (R83 to R88) -/

theorem rowsPassed_le (g : Grid) (height progress : Nat) : rowsPassed g height progress ≤ g.rows := by
  unfold rowsPassed
  exact (List.length_filter_le _ _).trans List.length_range.le

/-- A scan of window `w` is in progress; what it has committed is still to be settled. -/
structure Scanning (s : State) (w : WindowNo) : Prop where
  pointer : s.scan.pointer = some w
  lit : s.buffers[w].state ≠ .disabled
  passed : s.scan.passed ≤ s.grid.rows
  held : s.scan.result = none → s.scan.committed = 0

theorem agree_commitOrHold {s : State} {w : WindowNo} (h : BufferInv s) (hs : Scanning s w) : Agree (s.commitOrHold w) := by
  obtain ⟨pointer, lit, passed, held⟩ := hs
  have frame := outside_commitOrHold w s
  obtain ⟨x, f, same⟩ : ∃ x f, (s.commitOrHold w).scan = { s.scan with committed := x, fallback := f }
      ∧ (s.scan.result = none → x = 0) ∧ (s.scan.result ≠ none → x = s.scan.passed) := by
    rcases hr : s.scan.result with _ | k
    · refine ⟨0, s.scan.fallback, ?_, fun _ => rfl, fun hn => absurd rfl hn⟩
      rw [commitOrHold_held w hr]
      refine (outside_setFlagIf _ _ _ .scan (by decide)).trans ((outside_setFlag .hold s .scan (by decide)).trans ?_)
      rw [← held hr]
    · exact ⟨_, _, (commitOrHold_committed w hr).scan, nofun, fun _ => rfl⟩
  obtain ⟨scan, zero, full⟩ := same
  generalize s.commitOrHold w = t at *
  have buffers : t.buffers = s.buffers := frame .buffers (by decide)
  have result : t.scan.result = s.scan.result := by rw [scan]
  refine ⟨bufferInv_congr h (frame .windows (by decide)) (fun v => by rw [buffers]) (frame .queue (by decide))
    (congrArg Engine.analysis (frame .engine (by decide))) (Or.inl result), ?_⟩
  refine ⟨fun v e => ?_, fun e => ?_, ?_, fun e => ?_, fun e => ?_⟩
  all_goals rw [scan] at *
  · cases pointer.symm.trans e
    rw [buffers]
    exact lit
  · cases pointer.symm.trans e
  · rw [show t.grid = s.grid from frame .grid (by decide)]
    exact passed
  · exact zero e
  · exact full e

/-- The new scan of a scan start agrees with the buffers, and its buffer is SHOWN if it has a result (R84). -/
theorem replaceScan_agrees (w : WindowNo) (y : Nat) {s : State} (h : Agree s) (hw : s.windows[w].enable = true) :
    BufferInv (s.replaceScan w y) ∧ Scanning (s.replaceScan w y) w := by
  obtain ⟨inv, -⟩ := h
  have frame := outside_replaceScan w y s
  obtain ⟨scan, buffers⟩ : (s.replaceScan w y).scan
        = { s.scan with
            pointer := some w, result := s.buffers[w].state.result, progress := y,
            passed := rowsPassed s.grid s.windows[w].height y, committed := 0 }
      ∧ (s.replaceScan w y).buffers = s.buffers.set w { s.buffers[w] with state := s.buffers[w].state.onScanStart } :=
    ⟨rfl, rfl⟩
  generalize s.replaceScan w y = t at *
  have windows : t.windows = s.windows := frame .windows (by decide)
  have queue : t.queue = s.queue := frame .queue (by decide)
  have engine : t.engine = s.engine := frame .engine (by decide)
  have lit := (inv.enabled w).1 hw
  have states (v : WindowNo) :
      t.buffers[v].state = if v = w then s.buffers[w].state.onScanStart else s.buffers[v].state := by
    rw [buffers, buffers_set_get]
    split <;> rfl
  have shown : s.buffers[w].state.onScanStart ≠ .disabled := by
    rcases hs : s.buffers[w].state with _ | _ | k | _ | k | k | k | k
    case disabled => exact absurd hs lit
    all_goals nofun
  refine ⟨?_, by rw [scan], by rw [states, if_pos rfl]; exact shown, ?_, fun _ => by rw [scan]⟩
  · rcases hr : s.buffers[w].state.result with _ | k
    · rw [onScanStart_of_none hr] at states
      refine bufferInv_congr inv windows (fun v => ?_) queue (congrArg Engine.analysis engine) (Or.inr ?_)
      · rw [states]
        split
        · next e => rw [e]
        · rfl
      · rw [scan]
        exact hr
    · rw [onScanStart_of_result hr] at states
      have held (x : BufferState) (hx : x.result = none) : s.buffers[w].state ≠ x := fun e => by
        rw [e, hx] at hr
        cases hr
      refine bufferInv_released inv (w := w) (x := .shown k) ⟨states, ?_, fun v _ => by rw [windows], nofun,
        fun j e v hv f => ?_, ?_, fun v => ?_, fun a => ?_, fun b => ⟨nofun, nofun⟩, fun a ha => ⟨?_, ?_⟩⟩
      · rw [windows]
        exact iff_of_true hw nofun
      · cases e
        exact hv (inv.slots v w k f hr)
      · rw [queue]
        exact inv.once
      · rw [queue]
        exact mem_queue_elsewhere inv w (fun b => held _ rfl) v
      · rw [engine]
        exact analysis_elsewhere inv w (fun b => held _ rfl) a
      · rw [engine] at ha
        exact fun e => (inv.own a ha).1 w (hr.trans e)
      · rw [engine] at ha
        rw [scan]
        exact (inv.own a ha).1 w
  · rw [scan, show t.grid = s.grid from frame .grid (by decide)]
    exact rowsPassed_le _ _ _

theorem agree_scanStart (w : WindowNo) (y : Nat) {s : State} (h : Agree s) (hw : s.windows[w].enable = true) :
    Agree (s.scanStart w y) := by
  have flush := outside_flushScan s
  have flushed := agree_of_outside flush (by decide) h
  have enabled : s.flushScan.windows[w].enable = true := by
    rw [flush .windows (by decide)]
    exact hw
  obtain ⟨inv, scanning⟩ := replaceScan_agrees w y flushed enabled
  have settled := agree_commitOrHold inv scanning
  have restarted : Agree (State.restartSupervision (State.commitOrHold w (State.replaceScan w y s.flushScan))) :=
    agree_congr settled rfl (fun _ => rfl) rfl rfl rfl ⟨_, _, rfl⟩
  exact agree_of_outside (outside_releaseTripOf _ _) (by decide) restarted

theorem agree_advance (w : WindowNo) (y : Nat) {s : State} (h : Agree s) (hw : s.scan.pointer = some w) :
    Agree (s.advance w y) := by
  obtain ⟨inv, scan⟩ := h
  have frame := outside_advance w y s
  have moved := (advanced w y s).scan
  generalize s.advance w y = t at *
  have buffers : t.buffers = s.buffers := frame .buffers (by decide)
  refine ⟨bufferInv_congr inv (frame .windows (by decide)) (fun v => by rw [buffers]) (frame .queue (by decide))
    (congrArg Engine.analysis (frame .engine (by decide))) (Or.inl (by rw [moved])), fun v e => ?_, fun e => ?_, ?_,
    fun e => ?_, fun e => ?_⟩
  all_goals rw [moved] at *
  · rw [buffers]
    exact scan.pointer v e
  · cases hw.symm.trans e
  · rw [show t.grid = s.grid from frame .grid (by decide)]
    exact rowsPassed_le _ _ _
  · exact (if_pos e).trans (scan.held e)
  · exact if_neg e

theorem agree_handRead {c : ReadClass} {s : State} (h : Agree s)
    (hc : ∀ w : WindowNo, c.window = some w → s.windows[w].enable = true) : Agree (s.handRead c) := by
  unfold State.handRead
  split
  · next w hw =>
    refine keeps_ite ?_ h
    unfold State.scanBeat
    split
    · exact agree_scanStart _ _ h (hc _ hw)
    · split
      · next hp => exact agree_advance _ _ h hp
      · exact h
  · exact h

theorem agree_handReads (cs : List ReadClass) {s : State} (h : Agree s)
    (hc : ∀ c ∈ cs, ∀ w : WindowNo, c.window = some w → s.windows[w].enable = true) :
    Agree (cs.foldl (fun t c => t.handRead c) s) := by
  induction cs generalizing s with
  | nil => exact h
  | cons c rest ih =>
    refine ih (agree_handRead h (hc c List.mem_cons_self)) fun d hd => ?_
    rw [outside_handRead c s .windows (by decide)]
    exact hc d (List.mem_cons_of_mem c hd)

/-- A read is classified into an enabled window only (R3, R5). -/
theorem readClass_enabled {s : State} {id : BitVec 6} {a : Nat} {w : WindowNo} (h : (s.readClass id a).window = some w) :
    s.windows[w].enable = true := by
  unfold State.readClass at h
  split at h
  · next v y x0 n hl =>
    cases h
    have covers := (locate_eq_window s a w y x0 n hl).2.1
    simp only [Window.covers, Bool.and_eq_true] at covers
    exact covers.1.1
  · cases h
  · cases h

theorem agree_receive (r : Request) {s : State} (h : Agree s) : Agree (s.receive r) := by
  have joins := outside_enqueue r s
  have enqueued := agree_of_outside joins (by decide) h
  unfold State.receive
  split
  · exact agree_handWrites r _ _ _ enqueued
  · refine agree_handReads _ enqueued fun c hc w hw => ?_
    rw [joins .windows (by decide)]
    unfold State.classesOf at hc
    split at hc
    · cases hc
    · obtain ⟨k, -, rfl⟩ := List.mem_map.1 hc
      exact readClass_enabled hw

/-! ### Analyses (R37, R38, R54) -/

theorem agree_startAnalysis {s : State} (h : Agree s) {w : WindowNo} {b : BankNo} {k : SlotNo} {rest : List WindowNo}
    (ha : s.engine.analysis = none) (hq : s.queue = w :: rest) (hs : s.buffers[w].state = .queued b)
    (hk : s.freeSlot = some k) : Agree (s.startAnalysis w b k rest) := by
  obtain ⟨inv, scan⟩ := h
  have frame := outside_startAnalysis w b k rest s
  obtain ⟨buffers, queue, a, analysis, hbuffer, hbank, hslot⟩ :
      (s.startAnalysis w b k rest).buffers = s.buffers.set w { s.buffers[w] with state := .analysing b }
      ∧ (s.startAnalysis w b k rest).queue = rest
      ∧ ∃ a, (s.startAnalysis w b k rest).engine.analysis = some a ∧ a.buffer = w ∧ a.bank = b ∧ a.slot = k :=
    ⟨rfl, rfl, _, rfl, rfl, rfl, rfl⟩
  generalize s.startAnalysis w b k rest = t at *
  have windows : t.windows = s.windows := frame .windows (by decide)
  have tracker : t.scan = s.scan := frame .scan (by decide)
  have states (v : WindowNo) : t.buffers[v].state = if v = w then .analysing b else s.buffers[v].state := by
    rw [buffers, buffers_set_get]
    split <;> rfl
  obtain ⟨absent, once⟩ := List.nodup_cons.1 (hq ▸ inv.once)
  have free := (freeSlot_lowest hk).1
  simp only [State.slotTaken, Bool.or_eq_false_iff, List.any_eq_false, beq_iff_eq, beq_eq_false_iff_ne] at free
  obtain ⟨⟨-, unnamed⟩, unscanned⟩ := free
  refine ⟨bufferInv_moved inv (w := w) (x := .analysing b) ⟨states, ?_, fun v _ => by rw [windows], fun c e v hv f => ?_,
    nofun, ?_, fun v hv => ?_, ?_, fun c hc => ?_, fun c => ?_, fun c hc => ?_⟩, ?_⟩
  · rw [windows]
    refine iff_of_true ((inv.enabled w).2 ?_) nofun
    rw [hs]
    nofun
  · cases e
    exact hv (inv.banks v w b f (by rw [hs]; rfl))
  · rw [queue]
    exact once
  · rw [queue, hq, List.mem_cons]
    exact (or_iff_right hv).symm
  · rw [queue]
    exact iff_of_false absent nofun
  · rw [analysis, ha]
    refine iff_of_false (fun e => hc ?_) nofun
    rw [← Option.some.inj e]
    exact hbuffer
  · rw [analysis]
    constructor
    · intro e
      cases e
      exact ⟨a, rfl, hbuffer, hbank⟩
    · rintro ⟨d, e, -, hd⟩
      rw [← hd, ← Option.some.inj e, hbank]
  · cases analysis.symm.trans hc
    rw [hslot, tracker]
    exact ⟨fun v _ => unnamed v (List.mem_finRange v), nofun, unscanned⟩
  · refine scanInv_congr scan ⟨_, _, tracker⟩ (frame .grid (by decide)) fun v hv => ?_
    rw [states]
    split
    · nofun
    · exact hv

/-- A buffer with a result holds no bank. -/
theorem bank_of_result {x : BufferState} {k : SlotNo} (h : x.result = some k) : x.bank = none := by
  cases x
  case ready | shown => rfl
  all_goals cases h

/-- The analysed buffer takes the completed result, as `x`; the scan may take it too (R38, R88). -/
theorem bufferInv_delivered {s t : State} (h : BufferInv s) {a : Analysis} (ha : s.engine.analysis = some a) {x : BufferState}
    (hx : x.result = some a.slot) (hw : t.windows = s.windows) (hq : t.queue = s.queue) (he : t.engine.analysis = none)
    (hb : ∀ v : WindowNo, t.buffers[v].state = if v = a.buffer then x else s.buffers[v].state) : BufferInv t := by
  have analysing := (h.analysing a.buffer a.bank).2 ⟨a, ha, rfl, rfl⟩
  have named (y : BufferState) (hy : y.result = none) : x ≠ y := fun e => by
    rw [e, hy] at hx
    cases hx
  refine bufferInv_released h (w := a.buffer) (x := x) ⟨hb, ?_, fun v _ => by rw [hw], fun b e => ?_, fun k e v _ => ?_, ?_,
    fun v => ?_, fun c => ?_, fun b => ⟨named _ rfl, named _ rfl⟩, fun c e => ?_⟩
  · rw [hw]
    refine iff_of_true ((h.enabled _).2 ?_) (named _ rfl)
    rw [analysing]
    nofun
  · rw [bank_of_result hx] at e
    cases e
  · cases hx.symm.trans e
    exact (h.own a ha).1 v
  · rw [hq]
    exact h.once
  · rw [hq]
    exact mem_queue_elsewhere h a.buffer (fun b => by rw [analysing]; nofun) v
  · rw [he]
    exact analysis_of_analysing h analysing c
  · rw [he] at e
    cases e

theorem agree_completeAnalysis {s : State} (h : Agree s) {a : Analysis} (ha : s.engine.analysis = some a) :
    Agree (s.completeAnalysis a) := by
  obtain ⟨inv, scan⟩ := h
  obtain ⟨u, done, deliver⟩ := completeAnalysis_delivers a s
  have frame := done.outside
  have buffers : u.buffers = s.buffers := frame .buffers (by decide)
  have tracker : u.scan = s.scan := frame .scan (by decide)
  have grid : u.grid = s.grid := frame .grid (by decide)
  have queue : u.queue = s.queue := frame .queue (by decide)
  have windows : u.windows = s.windows := frame .windows (by decide)
  have idle : u.engine.analysis = none := by rw [done.engine]
  have lit : s.buffers[a.buffer].state ≠ .disabled := by
    rw [(inv.analysing a.buffer a.bank).2 ⟨a, ha, rfl, rfl⟩]
    nofun
  have states (x : BufferState) (v : WindowNo) :
      (u.setBuffer a.buffer { u.buffers[a.buffer] with state := x }).buffers[v].state
        = if v = a.buffer then x else s.buffers[v].state := by
    refine (congrArg Buffer.state (buffers_set_get u.buffers a.buffer v _)).trans ?_
    rw [buffers]
    split <;> rfl
  rw [deliver, State.deliver, tracker]
  split
  · next joins =>
    rw [lateJoin_eq]
    refine agree_commitOrHold ?_ ⟨?_, ?_, ?_, nofun⟩
    · exact bufferInv_delivered inv ha (x := .shown a.slot) rfl windows queue idle (states _)
    · exact (congrArg ScanTracker.pointer tracker).trans joins.1
    · refine ne_of_eq_of_ne ((states (.shown a.slot) a.buffer).trans (if_pos rfl)) nofun
    · show u.scan.passed ≤ u.grid.rows
      rw [tracker, grid]
      exact scan.passed
  · refine ⟨bufferInv_delivered inv ha (x := .ready a.slot) rfl windows queue idle (states _),
      scanInv_congr scan ⟨_, _, tracker⟩ grid fun v hv => ?_⟩
    rw [states]
    split
    · nofun
    · exact hv

/-! ### Supervision, windows and the grid -/

theorem agree_endScan {s : State} (h : Agree s) : Agree s.endScan :=
  ⟨bufferInv_congr h.1 rfl (fun _ => rfl) rfl rfl (Or.inr rfl), scanInv_ended ⟨rfl, rfl, rfl, rfl, rfl⟩⟩

theorem agree_superviseExpire {s : State} (h : Agree s) : Agree s.superviseExpire := by
  have stopped : Agree s.stopSupervision := agree_congr h rfl (fun _ => rfl) rfl rfl rfl ⟨_, _, rfl⟩
  have ended := agree_endScan stopped
  unfold State.superviseExpire
  dsimp only
  split
  · unfold State.enterFallback
    dsimp only
    refine agree_of_outside (outside_setFlag _ _) (by decide) (agree_of_outside (outside_addEvent _ _ _ _) (by decide) ?_)
    refine agree_of_outside (outside_foldl (fun t z => outside_writeDrive z _ t) _ _) (by decide) ?_
    exact agree_congr ended rfl (fun _ => rfl) rfl rfl rfl ⟨_, _, rfl⟩
  · exact ended

theorem agree_sample (c : SampleSet) {s : State} (h : Agree s) : Agree (s.sample c) := by
  have lines (t : State) := outside_forLines (fun l t => outside_modifyLine l lineMs t) t
  have ticked : Agree s.tickMs := by
    refine agree_of_outside (lines _) (by decide) ?_
    exact agree_congr h rfl (fun _ => rfl) rfl rfl rfl ⟨_, _, rfl⟩
  unfold State.sample
  refine agree_of_outside (outside_settleCeiling _ _) (by decide) (agree_of_outside (outside_evalSupply _) (by decide) ?_)
  refine agree_of_outside (outside_evalThermal _) (by decide) ?_
  exact agree_of_outside (outside_protection s.tickMs _) (by decide) ticked

theorem windowCheck_idle {s : State} {w : WindowNo} {snap : BitVec 1024} (h : s.windowCheck w snap = none) :
    s.buffers[w].state.busy = false := by
  by_contra hb
  unfold State.windowCheck at h
  rw [if_pos (by simpa using hb)] at h
  cases h

theorem agree_describeWindow {w : WindowNo} {x : Window} {s : State} (h : Agree s) (hx : x.enable = true)
    (hb : s.buffers[w].state.busy = false) : Agree (s.describeWindow w x) := by
  obtain ⟨inv, scan⟩ := h
  have frame := outside_describeWindow w x s
  obtain ⟨windows, buffers⟩ : (s.describeWindow w x).windows = s.windows.set w x
      ∧ (s.describeWindow w x).buffers = s.buffers.set w { state := .idle, written := 0 } := ⟨rfl, rfl⟩
  generalize s.describeWindow w x = t at *
  have queue : t.queue = s.queue := frame .queue (by decide)
  have engine : t.engine = s.engine := frame .engine (by decide)
  have tracker : t.scan = s.scan := frame .scan (by decide)
  have states (v : WindowNo) : t.buffers[v].state = if v = w then .idle else s.buffers[v].state := by
    rw [buffers, buffers_set_get]
    split <;> rfl
  have free (y : BufferState) (hy : y.busy = true) : s.buffers[w].state ≠ y := fun e => by
    rw [e, hy] at hb
    cases hb
  refine ⟨bufferInv_released inv (w := w) (x := .idle) ⟨states, ?_, fun v hv => ?_, nofun, nofun, ?_, fun v => ?_, fun a => ?_,
    fun b => ⟨nofun, nofun⟩, fun a ha => ⟨nofun, ?_⟩⟩, ?_⟩
  · rw [windows, Fin.getElem_fin, Vector.getElem_set_self]
    exact iff_of_true hx nofun
  · rw [windows, Fin.getElem_fin, Vector.getElem_set_ne _ _ fun e => hv (Fin.ext e.symm)]
    rfl
  · rw [queue]
    exact inv.once
  · rw [queue]
    exact mem_queue_elsewhere inv w (fun b => free _ rfl) v
  · rw [engine]
    exact analysis_elsewhere inv w (fun b => free _ rfl) a
  · rw [engine] at ha
    rw [tracker]
    exact (inv.own a ha).2
  · refine scanInv_congr scan ⟨_, _, tracker⟩ (frame .grid (by decide)) fun v hv => ?_
    rw [states]
    split
    · nofun
    · exact hv

theorem releaseBuffer_queue {s : State} (h : BufferInv s) (w v : WindowNo) :
    v ∈ (s.releaseBuffer w).queue ↔ v ∈ s.queue ∧ v ≠ w := by
  unfold State.releaseBuffer
  rcases hs : s.buffers[w].state with _ | _ | k | _ | k | k | k | k
  case queued => exact List.mem_filter.trans (and_congr_right fun _ => decide_eq_true_iff)
  all_goals exact mem_queue_elsewhere h w (fun b => by rw [hs]; nofun) v

theorem releaseBuffer_once {s : State} (h : BufferInv s) (w : WindowNo) : (s.releaseBuffer w).queue.Nodup := by
  unfold State.releaseBuffer
  split
  case h_2 => exact h.once.filter _
  all_goals exact h.once

theorem releaseBuffer_analysis {s : State} (h : BufferInv s) (w : WindowNo) (a : Analysis) :
    (s.releaseBuffer w).engine.analysis = some a ↔ s.engine.analysis = some a ∧ a.buffer ≠ w := by
  unfold State.releaseBuffer
  rcases hs : s.buffers[w].state with _ | _ | k | _ | k | k | k | k
  case analysing => exact analysis_of_analysing h hs a
  all_goals exact analysis_elsewhere h w (fun b => by rw [hs]; nofun) a

theorem agree_disableWindow (w : WindowNo) {s : State} (h : Agree s) : Agree (s.disableWindow w) := by
  obtain ⟨inv, scan⟩ := h
  have frame := outside_disableWindow w s
  obtain ⟨windows, buffers, queue, engine, tracker⟩ :
      (s.disableWindow w).windows = s.windows.set w { s.windows[w] with enable := false }
      ∧ (s.disableWindow w).buffers = s.buffers.set w { state := .disabled, written := 0 }
      ∧ (s.disableWindow w).queue = (s.releaseBuffer w).queue ∧ (s.disableWindow w).engine = (s.releaseBuffer w).engine
      ∧ (s.disableWindow w).scan
        = if s.scan.pointer = some w then
            { s.scan with pointer := none, result := none, progress := 0, passed := 0, committed := 0 }
          else s.scan := by
    rw [disableWindow_eq]
    exact ⟨rfl, rfl, rfl, rfl, rfl⟩
  generalize s.disableWindow w = t at *
  have states (v : WindowNo) : t.buffers[v].state = if v = w then .disabled else s.buffers[v].state := by
    rw [buffers, buffers_set_get]
    split <;> rfl
  refine ⟨bufferInv_released inv (w := w) (x := .disabled) ⟨states, ?_, fun v hv => ?_, nofun, nofun, ?_, fun v => ?_,
    fun a => ?_, fun b => ⟨nofun, nofun⟩, fun a ha => ⟨nofun, ?_⟩⟩, ?_⟩
  · rw [windows, Fin.getElem_fin, Vector.getElem_set_self]
    exact iff_of_false nofun fun e => e rfl
  · rw [windows, Fin.getElem_fin, Vector.getElem_set_ne _ _ fun e => hv (Fin.ext e.symm)]
    rfl
  · rw [queue]
    exact releaseBuffer_once inv w
  · rw [queue]
    exact releaseBuffer_queue inv w v
  · rw [engine]
    exact releaseBuffer_analysis inv w a
  · rw [engine, releaseBuffer_analysis inv w a] at ha
    rw [tracker]
    split
    · nofun
    · exact (inv.own a ha.1).2
  · by_cases hp : s.scan.pointer = some w
    · rw [if_pos hp] at tracker
      refine scanInv_ended ?_
      rw [tracker]
      exact ⟨rfl, rfl, rfl, rfl, rfl⟩
    · rw [if_neg hp] at tracker
      have grid : t.grid = s.grid := frame .grid (by decide)
      obtain ⟨pointer, idle, passed, held, committed⟩ := scan
      refine ⟨fun v e => ?_, by rw [tracker]; exact idle, by rw [tracker, grid]; exact passed, by rw [tracker]; exact held,
        by rw [tracker]; exact committed⟩
      rw [tracker] at e
      have other : v ≠ w := by
        rintro rfl
        exact hp e
      rw [states, if_neg other]
      exact pointer v e

theorem gridCheck_disabled {s : State} {snap : BitVec 1024} (h : s.gridCheck snap = none) (w : WindowNo) :
    s.buffers[w].state = .disabled := by
  refine (allDisabled_iff s).1 ?_ w
  by_contra hb
  unfold State.gridCheck at h
  dsimp only at h
  rw [if_pos (by simpa using hb)] at h
  cases h

theorem agree_replaceGrid {g : Grid} {s : State} (h : Agree s) (hd : ∀ w : WindowNo, s.buffers[w].state = .disabled) :
    Agree (s.replaceGrid g) := by
  obtain ⟨inv, -⟩ := h
  have idle : s.engine.analysis = none := by
    rcases ha : s.engine.analysis with _ | a
    · rfl
    · have := (inv.analysing a.buffer a.bank).2 ⟨a, ha, rfl, rfl⟩
      rw [hd] at this
      cases this
  rw [replaceGrid_eq]
  exact ⟨bufferInv_congr inv rfl (fun _ => rfl) rfl idle.symm (Or.inr rfl), scanInv_ended ⟨rfl, rfl, rfl, rfl, rfl⟩⟩

/-! ### Every command -/

theorem agree_analysisStart {s t : State} (hs : Agree s) (h : exec .analysisStart s = .next t) : Agree t := by
  have run : execAnalysisStart s = .next t := h
  have same (e : (Host.Outcome.next s : Out) = .next t) : Agree t := by
    cases e
    exact hs
  unfold execAnalysisStart at run
  split at run
  · exact same run
  · split at run
    · next w rest ha hq =>
      split at run
      · next b hb =>
        split at run
        · next k hk =>
          cases run
          exact agree_startAnalysis hs ha hq hb hk
        · cases run
      all_goals exact same run
    · exact same run

theorem agree_exec {c : Instr} {s t : State} (hs : Agree s) (h : exec c s = .next t) : Agree t := by
  have whenLive {f : State → State} (hf : ∀ s, Agree s → Agree (f s)) (e : (.next (s.whenLive f) : Out) = .next t) : Agree t := by
    cases e
    exact keeps_whenLive hf hs
  have quiet : ∀ s t, Outside [.ring, .freeCount] s t → Agree s → Agree t := fun s t ho => agree_of_outside ho (by decide)
  have answers (data : List Injected) (a : Answer) {s : State} (hs : Agree s) : Agree (s.answer data a) :=
    quiet _ _ (outside_answer data a s) hs
  have runs {r : Row} {body : BitVec 1024 → State → State} (hb : ∀ snap s, Agree s → Agree (body snap s))
      (e : (.next (s.runCommand r body) : Out) = .next t) : Agree t := by
    cases e
    exact keeps_runCommand quiet r hb hs
  cases c
  case requestReceived r =>
    exact whenLive (fun s hs => keeps_ite hs
      (keeps_ite (agree_of_outside (outside_link s _) (by decide) hs) (agree_receive r hs))) h
  case resetAsserted =>
    cases h
    obtain ⟨enabled, banks, slots, once, queued, analysing, own⟩ := bufferInv_reset
    obtain ⟨pointer, idle, passed, held, committed⟩ := scanInv_reset
    exact ⟨⟨enabled, banks, slots, once, queued, analysing, own⟩, ⟨pointer, idle, passed, held, committed⟩⟩
  case analysisStart => exact agree_analysisStart hs h
  case analysisCompletion =>
    refine whenLive (fun s hs => ?_) h
    split
    · next a ha => exact agree_completeAnalysis hs ha
    · exact hs
  case supervisionTimerExpiry => exact whenLive (fun s hs => keeps_ite (agree_superviseExpire hs) hs) h
  case analogSample codes => exact whenLive (fun s hs => agree_sample codes hs) h
  case coolDownEnd codes => exact whenLive (fun s hs => keeps_ite (agree_sample codes hs) hs) h
  case window =>
    refine runs (fun snap s hs => ?_) h
    unfold State.runWindow
    split
    · exact answers _ _ hs
    · split
      · exact answers _ _ hs
      · next hc => exact answers _ _ (agree_describeWindow hs rfl (windowCheck_idle hc))
  case windowOff =>
    refine runs (fun snap s hs => ?_) h
    unfold State.runWindowOff
    split
    · exact answers _ _ hs
    · exact keeps_ite (answers _ _ hs) (answers _ _ (agree_disableWindow _ hs))
  case setGrid =>
    refine runs (fun snap s hs => ?_) h
    unfold State.runSetGrid
    split
    · exact answers _ _ hs
    · next hc => exact answers _ _ (agree_replaceGrid hs (gridCheck_disabled hc))
  case selectSet =>
    refine runs (fun snap s hs => ?_) h
    have selected (x : SetId) : Agree (s.selectSet x) := agree_congr hs rfl (fun _ => rfl) rfl rfl rfl ⟨_, _, rfl⟩
    unfold State.runSelectSet
    split
    · exact answers _ _ (selected _)
    · exact answers _ _ (selected _)
    · exact answers _ _ hs
  all_goals exact agree_of_outside (exec_outside h) (by simp [touched, AgreeFree]) hs

/-- Settles O59: every command keeps the agreement (`agree_exec`), so every step does. -/
theorem buffersAndScanAgree : Obligations.BuffersAndScanAgree := fun _ _ hb hs h =>
  step_keeps (P := Agree) (fun _ _ h => agree_congr h rfl (fun _ => rfl) rfl rfl rfl ⟨_, _, rfl⟩) (fun _ _ _ => agree_exec)
    ⟨hb, hs⟩ h

end Sys2Proof.Laws
end

section
/-! SUPPORT. The agreement of backlight state, sequencer and lines (section 8.1, R106, R133 to R135, R138) over every command. -/

namespace Sys2Proof.Laws

-- Each proof may wait for an earlier one; run one after another they need no thread each.
set_option Elab.async false

open Sys2Proof Sys2Proof.Machine Sys2Proof.Safety

/-! ### The agreement in other terms -/

/-- A frame is in flight on a STARTING or RUNNING line only (R115, R121, R122). -/
def Sound (x : Line) : Prop := x.inFlight ≠ none → x.state = .starting ∨ x.state = .running

/-- What a backlight state says of the sequencer and of the lines' states (section 8.1, R106, R133 to R135, R138). -/
def Stands (b : Backlight) (q : Sequencer) (state : LineNo → LineState) : Prop :=
  match b with
  | .off | .thermalOff | .latchedOff => q = .idle ∧ ∀ l, resting (state l)
  | .poweringUp => ∃ toStart last, q = .up toStart last
  | .on => q = .idle
  | .poweringDown => (q = .draining ∨ q = .dropping) ∧ ∀ l, resting (state l) ∨ state l = .running

theorem powerInv_iff (s : State) :
    PowerInv s ↔
      Stands s.protection.backlight s.protection.sequencer (fun l => s.lines[l].state) ∧ ∀ l : LineNo, Sound s.lines[l] := by
  constructor
  · intro h
    refine ⟨?_, fun l hl => ?_⟩
    · rcases hb : s.protection.backlight with _ | _ | _ | _ | _ | _
      · exact h.dark (Or.inl hb)
      · exact h.up hb
      · exact h.on hb
      · exact h.falling hb
      · exact h.dark (Or.inr (Or.inl hb))
      · exact h.dark (Or.inr (Or.inr hb))
    · obtain ⟨f, hf⟩ := Option.ne_none_iff_exists'.1 hl
      exact h.flying l f hf
  · rintro ⟨stands, sound⟩
    refine ⟨fun hb => ?_, fun hb => ?_, fun hb => ?_, fun hb => ?_, fun l f hf => sound l (by rw [hf]; nofun)⟩
    · rcases hb with hb | hb | hb <;> rw [hb] at stands <;> exact stands
    all_goals
      rw [hb] at stands
      exact stands

theorem powerInv_sound {s : State} (h : PowerInv s) (l : LineNo) : Sound s.lines[l] := ((powerInv_iff s).1 h).2 l

/-- A line that is neither OFF nor LOCKED stands under a backlight that is ON or powering up, or is RUNNING in a power-down. -/
theorem powerInv_lit {s : State} (h : PowerInv s) {l : LineNo} (hr : ¬resting s.lines[l].state)
    (hn : s.lines[l].state = .running → s.protection.backlight ≠ .poweringDown) :
    s.protection.backlight = .on ∨ s.protection.backlight = .poweringUp := by
  obtain ⟨dark, -, -, falling, -⟩ := h
  rcases hb : s.protection.backlight with _ | _ | _ | _ | _ | _
  · exact absurd ((dark (Or.inl hb)).2 l) hr
  · exact Or.inr rfl
  · exact Or.inl rfl
  · exact (((falling hb).2 l).elim hr fun e => hn e hb).elim
  · exact absurd ((dark (Or.inr (Or.inl hb))).2 l) hr
  · exact absurd ((dark (Or.inr (Or.inr hb))).2 l) hr

/-- A power-up holds the sequencer in its own backlight state only (R133). -/
theorem powerInv_poweringUp {s : State} (h : PowerInv s) {ls : List LineNo} {l : LineNo}
    (hq : s.protection.sequencer = .up ls l) : s.protection.backlight = .poweringUp := by
  obtain ⟨dark, -, on, falling, -⟩ := h
  rw [hq] at dark on falling
  rcases hb : s.protection.backlight with _ | _ | _ | _ | _ | _
  · cases (dark (Or.inl hb)).1
  · rfl
  · cases on hb
  · rcases (falling hb).1 with e | e <;> cases e
  · cases (dark (Or.inr (Or.inl hb))).1
  · cases (dark (Or.inr (Or.inr hb))).1

theorem powerInv_poweringDown {s : State} (h : PowerInv s)
    (hq : s.protection.sequencer = .draining ∨ s.protection.sequencer = .dropping) : s.protection.backlight = .poweringDown := by
  obtain ⟨dark, up, on, -, -⟩ := h
  have idle : s.protection.sequencer ≠ .idle := by rcases hq with e | e <;> rw [e] <;> nofun
  rcases hb : s.protection.backlight with _ | _ | _ | _ | _ | _
  · exact absurd (dark (Or.inl hb)).1 idle
  · obtain ⟨ls, l, e⟩ := up hb
    rw [e] at hq
    rcases hq with e | e <;> cases e
  · exact absurd (on hb) idle
  · rfl
  · exact absurd (dark (Or.inr (Or.inl hb))).1 idle
  · exact absurd (dark (Or.inr (Or.inr hb))).1 idle

/-! ### Changes that the agreement does not notice -/

/-- Backlight state, sequencer and line states are as they were, and no frame is newly in flight. -/
structure Calm (s t : State) : Prop where
  backlight : t.protection.backlight = s.protection.backlight
  sequencer : t.protection.sequencer = s.protection.sequencer
  state : ∀ l : LineNo, t.lines[l].state = s.lines[l].state
  free : ∀ l : LineNo, s.lines[l].inFlight = none → t.lines[l].inFlight = none

theorem calm_refl (s : State) : Calm s s := ⟨rfl, rfl, fun _ => rfl, fun _ => id⟩

theorem calm_trans {s t u : State} (h : Calm s t) (k : Calm t u) : Calm s u :=
  ⟨k.backlight.trans h.backlight, k.sequencer.trans h.sequencer, fun l => (k.state l).trans (h.state l),
    fun l e => k.free l (h.free l e)⟩

theorem calm_step {s t u : State} (k : Calm t u) (h : Calm s t) : Calm s u := calm_trans h k

theorem calm_protection (s : State) (p : Protection) (hb : p.backlight = s.protection.backlight)
    (hq : p.sequencer = s.protection.sequencer) : Calm s { s with protection := p } :=
  ⟨hb, hq, fun _ => rfl, fun _ => id⟩

theorem calm_of_outside {ps : List Piece} {s t : State} (h : Outside ps s t)
    (hp : Piece.lines ∉ ps ∧ Piece.protection ∉ ps := by decide) : Calm s t := by
  have protection : t.protection = s.protection := h .protection hp.2
  have lines : t.lines = s.lines := h .lines hp.1
  exact ⟨by rw [protection], by rw [protection], fun l => by rw [lines], fun l => by rw [lines]; exact id⟩

theorem calm_ite {c : Prop} [Decidable c] {s t u : State} (ht : Calm s t) (hu : Calm s u) : Calm s (if c then t else u) := by
  split
  · exact ht
  · exact hu

theorem calm_foldl {α : Type} {f : State → α → State} (h : ∀ s a, Calm s (f s a)) (as : List α) (s : State) :
    Calm s (as.foldl f s) := by
  induction as generalizing s with
  | nil => exact calm_refl s
  | cons a as ih => exact calm_trans (h s a) (ih _)

theorem calm_forLines {f : LineNo → State → State} (h : ∀ l s, Calm s (f l s)) (s : State) : Calm s (forLines f s) :=
  calm_foldl (fun t l => h l t) _ s

theorem calm_modifyLine (l : LineNo) (f : Line → Line) (s : State) (hs : (f s.lines[l]).state = s.lines[l].state)
    (hf : s.lines[l].inFlight = none → (f s.lines[l]).inFlight = none) : Calm s (s.modifyLine l f) := by
  refine ⟨rfl, rfl, fun m => ?_, fun m e => ?_⟩
  all_goals
    rw [modifyLine_get]
    split
  · next h => rw [h, hs]
  · rfl
  · next h => exact hf (h ▸ e)
  · exact e

theorem powerInv_calm {s t : State} (h : PowerInv s) (c : Calm s t) : PowerInv t := by
  obtain ⟨stands, sound⟩ := (powerInv_iff s).1 h
  refine (powerInv_iff t).2 ⟨?_, fun l hl => ?_⟩
  · rw [c.backlight, c.sequencer, funext c.state]
    exact stands
  · rw [c.state l]
    exact sound l fun e => hl (c.free l e)

/-! ### Marks and commits -/

theorem calm_ceilingMark (l : LineNo) (s : State) : Calm s (s.ceilingMark l) := by
  unfold State.ceilingMark
  refine calm_ite (calm_modifyLine l _ s rfl fun e => ?_) (calm_refl s)
  dsimp only
  rw [e]
  rfl

theorem calm_settleCeiling (old : Nat) (s : State) : Calm s (s.settleCeiling old) :=
  calm_ite (calm_refl s) (calm_forLines calm_ceilingMark s)

theorem calm_markChannels (l : LineNo) (m : BitVec 384) (s : State) : Calm s (s.markChannels l m) :=
  calm_modifyLine l _ s rfl id

theorem calm_writeDrive (z : Nat) (e : DriveEntry) (s : State) : Calm s (s.writeDrive z e) := by
  have written : Calm s { s with drive := s.drive.set z e } := calm_of_outside (outside_drive s _)
  unfold State.writeDrive State.markZone
  refine calm_ite (calm_trans written ?_) written
  split
  · exact calm_markChannels _ _ _
  · exact calm_refl _

theorem calm_commitRows (k : SlotNo) (lo hi : Nat) (s : State) : Calm s (s.commitRows k lo hi) := by
  unfold State.commitRows
  refine calm_foldl (fun t row => ?_) _ s
  unfold State.commitRow
  exact calm_foldl (fun t n => calm_writeDrive _ _ t) _ t

theorem calm_flushScan (s : State) : Calm s s.flushScan := by
  unfold State.flushScan
  split
  · exact calm_commitRows _ _ _ s
  · exact calm_refl s

theorem calm_commitOrHold (w : WindowNo) (s : State) : Calm s (s.commitOrHold w) := by
  unfold State.commitOrHold
  split
  · refine calm_step (calm_of_outside (outside_leaveFallback _ _ _)) ?_
    exact calm_step (calm_of_outside (outside_scan _ _)) (calm_commitRows _ _ _ s)
  · exact calm_of_outside (outside_trans (outside_setFlag .hold s) (outside_setFlagIf _ .late _))

theorem calm_releaseTrip (s : State) : Calm s s.releaseTrip := by
  unfold State.releaseTrip
  split
  · exact calm_refl s
  · exact calm_step (calm_of_outside (outside_addEvent _ _ _ _)) (calm_protection s _ rfl rfl)

theorem calm_releaseTripOf (m : ReleaseMode) (s : State) : Calm s (s.releaseTripOf m) := by
  unfold State.releaseTripOf
  split
  · exact calm_refl s
  · exact calm_ite (calm_releaseTrip s) (calm_refl s)

theorem calm_scanBeat (w : WindowNo) (y : Nat) (s : State) : Calm s (s.scanBeat w y) := by
  unfold State.scanBeat
  refine calm_ite ?_ (calm_ite ?_ (calm_refl s))
  · unfold State.scanStart
    refine calm_trans (calm_flushScan s) (calm_trans (calm_of_outside (outside_replaceScan w y _)) ?_)
    refine calm_trans (calm_commitOrHold w _) (calm_trans (calm_of_outside (outside_restartSupervision _)) ?_)
    exact calm_releaseTripOf _ _
  · unfold State.advance
    dsimp only
    split
    · exact calm_step (calm_of_outside (outside_scan _ _)) (calm_commitRows _ _ _ s)
    · exact calm_of_outside (outside_scan s _)

theorem calm_receive (r : Request) (s : State) : Calm s (s.receive r) := by
  unfold State.receive
  refine calm_trans (calm_of_outside (outside_enqueue r s)) ?_
  split
  · exact calm_of_outside (outside_handWrites r _ _ _ _)
  · refine calm_foldl (fun t c => ?_) _ _
    unfold State.handRead
    split
    · exact calm_ite (calm_scanBeat _ _ t) (calm_refl t)
    · exact calm_refl t

theorem calm_completeAnalysis (a : Analysis) (s : State) : Calm s (s.completeAnalysis a) := by
  obtain ⟨u, done, deliver⟩ := completeAnalysis_delivers a s
  rw [deliver, State.deliver]
  refine calm_trans (calm_of_outside done.outside) (calm_ite ?_ (calm_of_outside (outside_setBuffer _ _ u)))
  rw [lateJoin_eq]
  refine calm_step (calm_commitOrHold _ _) (calm_step (calm_of_outside (outside_scan _ _)) ?_)
  exact calm_of_outside (outside_setBuffer _ _ u)

theorem calm_superviseExpire (s : State) : Calm s s.superviseExpire := by
  have ended : Calm s s.stopSupervision.endScan := calm_of_outside (outside_trans (outside_stopSupervision s) (outside_endScan _))
  unfold State.superviseExpire
  dsimp only
  split
  · unfold State.enterFallback
    dsimp only
    refine calm_step (calm_of_outside (outside_setFlag _ _)) (calm_step (calm_of_outside (outside_addEvent _ _ _ _)) ?_)
    refine calm_step (calm_foldl (fun t z => calm_writeDrive z _ t) _ _) ?_
    exact calm_step (calm_of_outside (outside_scan _ _)) ended
  · exact ended

/-! ### Tables -/

theorem calm_setTableState (id : TableId) (x : TableState) (s : State) : Calm s (s.setTableState id x) :=
  calm_trans (calm_of_outside (outside_tables s _)) (calm_settleCeiling _ _)

theorem calm_failLoad (id : TableId) (a : Answer) (s : State) : Calm s (s.failLoad id a) := by
  unfold State.failLoad
  refine calm_step (calm_of_outside (outside_answer _ _ _)) (calm_step (calm_of_outside (outside_addEvent _ _ _ _)) ?_)
  exact calm_setTableState id .invalid s

theorem calm_passLoad (l : Load) (s : State) : Calm s (s.passLoad l) :=
  calm_trans (calm_setTableState l.table .valid s) (calm_of_outside (outside_answer _ _ _))

theorem calm_endLoad (l : Load) (sum : BitVec 16) (s : State) : Calm s (s.endLoad l sum) := by
  unfold State.endLoad
  refine calm_ite (calm_ite ?_ (calm_passLoad l s)) (calm_failLoad _ _ s)
  split
  · exact calm_failLoad _ _ s
  · exact calm_passLoad l s

theorem calm_fetchBeat (id : TableId) (data : Beat) (s : State) : Calm s (s.fetchBeat id data) := by
  unfold State.fetchBeat
  split
  · exact calm_refl s
  · split
    · exact calm_refl s
    · split
      · exact calm_refl s
      · refine calm_ite ?_ (calm_refl s)
        unfold State.takeFetchBeat
        dsimp only
        refine calm_trans (calm_of_outside (outside_tables s _)) (calm_ite (calm_endLoad _ _ _) ?_)
        exact calm_of_outside (outside_setLoad _ _ _)

theorem calm_routeReturn (e : Tracked) (rest : List Tracked) (data : Beat) (s : State) : Calm s (s.routeReturn e rest data) := by
  unfold State.routeReturn
  dsimp only
  have counted : Calm s { s with link := { s.link with tracking := countReturn e rest } } := calm_of_outside (outside_link s _)
  split
  · exact calm_step (calm_of_outside (outside_returnUpstream _ data _)) counted
  · unfold State.fetchReturn
    split
    · exact calm_step (calm_fetchBeat _ data _) counted
    · exact counted
    · exact counted

theorem calm_downstreamDown (s : State) : Calm s s.downstreamDown := by
  unfold State.downstreamDown
  have emptied : Calm s { s with link := { s.link with downstream := .down, injected := [], waitCount := 0, tracking := [] } } :=
    calm_of_outside (outside_link s _)
  unfold State.stallRing
  split
  · exact emptied
  · split
    · split
      · exact calm_step (calm_failLoad _ _ _) emptied
      · exact emptied
    · exact calm_step (calm_of_outside (outside_ring _ _)) emptied

theorem calm_beginLoad (l : Load) (s : State) : Calm s (s.beginLoad l) :=
  calm_trans (calm_setTableState l.table .loading s) (calm_of_outside (outside_setLoad _ _ _))

/-! ### Time -/

theorem calm_tickMs (s : State) : Calm s s.tickMs := by
  unfold State.tickMs
  refine calm_step (calm_forLines (fun l t => calm_modifyLine l lineMs t rfl id) _) ?_
  exact calm_step (calm_of_outside (outside_scan { s with ms := s.ms + 1 } _)) (calm_of_outside (outside_ms s _))

theorem calm_tickUs (s : State) : Calm s s.tickUs := by
  unfold State.tickUs
  exact calm_step (calm_forLines (fun l t => calm_modifyLine l lineUs t rfl id) _) (calm_protection s _ rfl rfl)

theorem calm_ocSample (asserted : Bool) (s : State) : Calm s (s.ocSample asserted) := by
  unfold State.ocSample
  have ticked := calm_tickUs s
  dsimp only
  refine calm_ite ?_ (calm_step (calm_protection s.tickUs _ rfl rfl) ticked)
  unfold State.tripNow
  dsimp only
  refine calm_step (calm_of_outside (outside_addEvent _ _ _ _)) (calm_step (calm_of_outside (outside_setFlag _ _)) ?_)
  exact calm_step (calm_protection s.tickUs _ rfl rfl) ticked

/-! ### The reports of a POLL (R125 to R128) -/

theorem calm_setSuspect (l : LineNo) (kind : FaultKind) (bit : Nat) (on : Bool) (s : State) : Calm s (s.setSuspect l kind bit on) :=
  calm_modifyLine l _ s (by cases kind <;> rfl) (by cases kind <;> exact id)

theorem calm_markFault (kind : FaultKind) (z : Nat) (s : State) : Calm s (s.markFault kind z) :=
  calm_of_outside (outside_markFault kind z s)

theorem calm_testChannel (l : LineNo) (p k : Nat) (kind : FaultKind) (reported : Bool) (s : State) :
    Calm s (s.testChannel l p k kind reported) := by
  unfold State.testChannel
  split
  · exact calm_refl s
  · refine calm_ite (calm_refl s) ?_
    dsimp only
    split
    · exact calm_setSuspect _ _ _ _ s
    · refine calm_step (calm_modifyLine l _ _ rfl id) (calm_step (calm_of_outside (outside_addEvent _ _ _ _)) ?_)
      exact calm_step (calm_markFault _ _ _) (calm_setSuspect _ _ _ _ s)
    · exact calm_setSuspect _ _ _ _ s
    · exact calm_refl s

theorem calm_testPosition (l : LineNo) (x : PollReport) (p : Nat) (s : State) : Calm s (s.testPosition l x p) := by
  unfold State.testPosition
  exact calm_foldl (fun t k => calm_step (calm_testChannel _ _ _ _ _ _) (calm_testChannel _ _ _ _ _ t)) _ s

theorem calm_testHot (l : LineNo) (p : Nat) (reported : Bool) (s : State) : Calm s (s.testHot l p reported) := by
  unfold State.testHot
  split
  · refine calm_step (calm_of_outside (outside_addEvent _ _ _ _)) (calm_step (calm_markChannels _ _ _) ?_)
    exact calm_modifyLine l _ s rfl id
  · exact calm_step (calm_markChannels _ _ _) (calm_modifyLine l _ s rfl id)
  · exact calm_refl s
  · exact calm_refl s

theorem calm_actOnPoll (l : LineNo) (bytes : List Byte) (s : State) : Calm s (s.actOnPoll l bytes) := by
  unfold State.actOnPoll
  dsimp only
  refine calm_step (calm_foldl (fun t p => calm_ite (calm_markChannels _ _ t) (calm_refl t)) _ _) ?_
  refine calm_step (calm_foldl (fun t p => calm_testHot _ _ _ t) _ _) ?_
  exact calm_foldl (fun t p => calm_testPosition _ _ _ t) _ s

/-! ### One line changes its state -/

/-- What one line may become without disturbing the backlight: it keeps its state, or comes to rest, or the backlight is ON
or powering up. -/
structure LineMoved (s t : State) (l : LineNo) (x : Line) : Prop where
  protection : t.protection = s.protection
  lines : ∀ m : LineNo, t.lines[m] = if m = l then x else s.lines[m]
  sound : Sound x
  state : x.state = s.lines[l].state ∨ resting x.state ∨ s.protection.backlight = .on ∨ s.protection.backlight = .poweringUp

theorem powerInv_lineMoved {s t : State} {l : LineNo} {x : Line} (h : PowerInv s) (m : LineMoved s t l x) : PowerInv t := by
  obtain ⟨protection, lines, soundness, state⟩ := m
  obtain ⟨stands, sound⟩ := (powerInv_iff s).1 h
  refine (powerInv_iff t).2 ⟨?_, fun k => ?_⟩
  · rw [protection]
    have each (P : LineState → Prop) (hrest : ∀ y, resting y → P y) (hx : x.state = s.lines[l].state ∨ resting x.state)
        (hall : ∀ k : LineNo, P s.lines[k].state) (k : LineNo) : P t.lines[k].state := by
      rw [lines]
      split
      · rcases hx with e | e
        · rw [e]
          exact hall l
        · exact hrest _ e
      · exact hall k
    rcases hb : s.protection.backlight with _ | _ | _ | _ | _ | _
    all_goals rw [hb] at stands state
    case on | poweringUp => exact stands
    case poweringDown =>
      have hx := state.imp_right fun e => e.resolve_right (by rintro (e | e) <;> cases e)
      exact ⟨stands.1, each (fun y => resting y ∨ y = .running) (fun y => Or.inl) hx stands.2⟩
    all_goals
      have hx := state.imp_right fun e => e.resolve_right (by rintro (e | e) <;> cases e)
      exact ⟨stands.1, each resting (fun y => id) hx stands.2⟩
  · rw [lines]
    split
    · exact soundness
    · exact sound k

theorem lineMoved_modifyLine {s : State} {l : LineNo} {f : Line → Line} (hf : Sound (f s.lines[l]))
    (hs : (f s.lines[l]).state = s.lines[l].state ∨ resting (f s.lines[l]).state
      ∨ s.protection.backlight = .on ∨ s.protection.backlight = .poweringUp) :
    LineMoved s (s.modifyLine l f) l (f s.lines[l]) := ⟨rfl, fun m => modifyLine_get l m f s, hf, hs⟩

theorem sound_free {x : Line} (h : x.inFlight = none) : Sound x := fun e => absurd h e

/-- A line that is neither STARTING nor RUNNING has no frame in flight. -/
theorem sound_idle {x : Line} (h : Sound x) (hs : x.state ≠ .starting ∧ x.state ≠ .running) : x.inFlight = none := by
  by_contra hn
  exact (h hn).elim hs.1 hs.2

theorem sound_startedLine {x : Line} (slot : Nat) (h : x.inFlight = none) : Sound (startedLine slot x) := sound_free h

theorem sound_stoppedLine (x : Line) : Sound (stoppedLine x) := sound_free rfl

theorem powerInv_startOrder {s : State} (h : PowerInv s) (l : LineNo)
    (hb : s.protection.backlight = .on ∨ s.protection.backlight = .poweringUp) : PowerInv (s.startOrder l) := by
  by_cases hs : s.lines[l].state = .off ∨ s.lines[l].state = .faulted
  · refine powerInv_lineMoved (l := l) (x := startedLine s.limits.slotUs s.lines[l]) h
      ⟨outside_startOrder l s .protection (by decide), fun m => ?_, sound_startedLine _ (sound_idle (powerInv_sound h l) ?_),
        Or.inr (Or.inr hb)⟩
    · rw [startOrder_get]
      exact if_congr (and_iff_left hs) rfl rfl
    · rcases hs with e | e <;> rw [e] <;> exact ⟨nofun, nofun⟩
  · unfold State.startOrder
    rw [if_neg hs]
    exact h

theorem powerInv_stopOrder {s : State} (h : PowerInv s) (l : LineNo) : PowerInv (s.stopOrder l) := by
  by_cases hs : s.lines[l].state = .off ∨ s.lines[l].state = .locked
  · unfold State.stopOrder
    rw [if_pos hs]
    exact h
  · refine powerInv_lineMoved (l := l) (x := stoppedLine s.lines[l]) h
      ⟨outside_stopOrder l s .protection (by decide), fun m => ?_, sound_stoppedLine _, Or.inr (Or.inl (Or.inl rfl))⟩
    rw [stopOrder_get]
    exact if_congr (and_iff_left (not_or.1 hs)) rfl rfl

/-! ### The backlight changes its state (R130 to R135) -/

theorem setBacklight_protection (b : Backlight) (s : State) :
    (s.setBacklight b).protection = { s.protection with backlight := b } := (setBacklight_spec b s).1

theorem setBacklight_lines (b : Backlight) (s : State) : (s.setBacklight b).lines = s.lines :=
  outside_setBacklight b s .lines (by decide)

/-- The backlight takes the state `b` under the sequencer phase `q`. -/
theorem powerInv_backlight {s : State} {b : Backlight} {q : Sequencer} {n : Timer} (sound : ∀ l : LineNo, Sound s.lines[l])
    (stands : Stands b q fun l => s.lines[l].state) : PowerInv ((s.setSequencer q n).setBacklight b) := by
  refine (powerInv_iff _).2 ⟨?_, fun l => ?_⟩
  · rw [setBacklight_protection]
    simp only [setBacklight_lines]
    exact stands
  · rw [setBacklight_lines]
    exact sound l

/-- The end of a power-down: no line is RUNNING any more (R135). -/
theorem powerInv_powerDownEnd {s : State} (h : PowerInv s) (hb : s.protection.backlight = .poweringDown)
    (hr : ∀ l : LineNo, s.lines[l].state ≠ .running) : PowerInv s.powerDownEnd := by
  refine powerInv_calm (powerInv_backlight (b := .off) (q := .idle) (powerInv_sound h) ⟨rfl, fun l => ?_⟩) (calm_settleCeiling _ _)
  exact ((h.falling hb).2 l).resolve_right (hr l)

theorem none_running {s : State} (h : s.highestRunning = none) (l : LineNo) : s.lines[l].state ≠ .running := by
  intro e
  obtain ⟨m, hm⟩ := highestRunning_isSome s l e
  rw [h] at hm
  cases hm

theorem powerInv_dropOne {s : State} (h : PowerInv s) (hb : s.protection.backlight = .poweringDown) : PowerInv s.dropOne := by
  unfold State.dropOne
  split
  · next hn => exact powerInv_powerDownEnd h hb (none_running hn)
  · next l hl =>
    have stopped := powerInv_stopOrder h l
    have protection : (s.stopOrder l).protection = s.protection := outside_stopOrder l s .protection (by decide)
    have falling : (s.stopOrder l).protection.backlight = .poweringDown := by rw [protection, hb]
    dsimp only
    split
    · next hn => exact powerInv_powerDownEnd stopped falling (none_running hn)
    · obtain ⟨stands, sound⟩ := (powerInv_iff _).1 stopped
      refine (powerInv_iff _).2 ⟨?_, sound⟩
      rw [falling] at stands
      show Stands (s.stopOrder l).protection.backlight .dropping _
      rw [falling]
      exact ⟨Or.inr rfl, stands.2⟩

theorem powerInv_powerDownTest {s : State} (h : PowerInv s) : PowerInv s.powerDownTest := by
  unfold State.powerDownTest
  split
  · next hq => exact keeps_ite (powerInv_dropOne h (powerInv_poweringDown h (Or.inl hq))) h
  · next hq =>
    split
    · next hn => exact powerInv_powerDownEnd h (powerInv_poweringDown h (Or.inr hq)) (none_running hn)
    · exact h
  · exact h
  · exact h

theorem powerInv_powerUpBegin {s : State} (sound : ∀ l : LineNo, Sound s.lines[l]) : PowerInv s.powerUpBegin := by
  have sound' : ∀ l : LineNo, Sound (s.setBacklight .poweringUp).lines[l] := fun l => by
    rw [setBacklight_lines]
    exact sound l
  unfold State.powerUpBegin
  dsimp only
  split
  · exact powerInv_backlight sound' rfl
  · next l rest _ =>
    have up : ((s.setBacklight .poweringUp).setSequencer (.up rest l) (stepTimerFor rest)).protection.backlight = .poweringUp :=
      congrArg Protection.backlight (setBacklight_protection .poweringUp s)
    have begun : PowerInv ((s.setBacklight .poweringUp).setSequencer (.up rest l) (stepTimerFor rest)) := by
      refine (powerInv_iff _).2 ⟨?_, sound'⟩
      rw [up]
      exact ⟨rest, l, rfl⟩
    exact powerInv_startOrder begun l (Or.inr up)

/-- A power-down begins from ON or a power-up (R134). -/
theorem powerInv_powerDownBegin {s : State} (h : PowerInv s) (hb : s.protection.backlight ≠ .poweringDown) :
    PowerInv s.powerDownBegin := by
  obtain ⟨protection, lines, -, -⟩ := fallingState_spec s hb
  rw [powerDownBegin_eq]
  refine powerInv_powerDownTest ((powerInv_iff _).2 ⟨?_, fun l => ?_⟩)
  · rw [protection]
    refine ⟨Or.inl rfl, fun l => ?_⟩
    dsimp only
    rw [lines]
    by_cases hr : s.lines[l].state = .running
    · right
      rw [if_pos hr]
      split
      · exact hr
      · exact hr
    · left
      rw [if_neg hr]
      split
      · next e => exact e
      · exact Or.inl rfl
  · have sound := powerInv_sound h l
    rw [lines]
    split
    · next hr =>
      split
      · exact sound
      · exact fun _ => Or.inr hr
    · split
      · exact sound
      · exact sound_stoppedLine _

theorem powerInv_setTarget {s : State} (h : PowerInv s) (x : Bool) : PowerInv (s.setTarget x) :=
  powerInv_calm h (calm_protection s _ rfl rfl)

/-- A dark backlight keeps its lines and sequencer under any other dark state. -/
theorem powerInv_setBacklight_dark {s : State} (h : PowerInv s) {b : Backlight}
    (hs : s.protection.backlight = .off ∨ s.protection.backlight = .thermalOff ∨ s.protection.backlight = .latchedOff)
    (hb : b = .off ∨ b = .thermalOff ∨ b = .latchedOff) : PowerInv (s.setBacklight b) := by
  obtain ⟨idle, rest⟩ := h.dark hs
  refine (powerInv_iff _).2 ⟨?_, fun l => ?_⟩
  · rw [setBacklight_protection]
    simp only [setBacklight_lines]
    rcases hb with rfl | rfl | rfl <;> exact ⟨idle, rest⟩
  · rw [setBacklight_lines]
    exact powerInv_sound h l

theorem powerInv_powerUpOrOff {s : State} (h : PowerInv s)
    (hs : s.protection.backlight = .off ∨ s.protection.backlight = .thermalOff ∨ s.protection.backlight = .latchedOff) :
    PowerInv s.powerUpOrOff :=
  keeps_ite (powerInv_powerUpBegin (powerInv_sound h)) (powerInv_setBacklight_dark (powerInv_setTarget h false) hs (Or.inl rfl))

theorem powerInv_backlightOff {s : State} (h : PowerInv s) : PowerInv s.backlightOff := by
  have targeted := powerInv_setTarget h false
  have kept (b : Backlight) (hb : s.protection.backlight = b) : (s.setTarget false).protection.backlight = b := hb
  unfold State.backlightOff
  dsimp only
  split
  · exact targeted
  · next hb => exact powerInv_powerDownBegin targeted (by rw [kept _ hb]; nofun)
  · next hb => exact powerInv_powerDownBegin targeted (by rw [kept _ hb]; nofun)
  · exact targeted
  · next hb => exact powerInv_setBacklight_dark targeted (Or.inr (Or.inl hb)) (Or.inl rfl)
  · exact targeted

theorem powerInv_clearLatchedOff {s : State} (h : PowerInv s) (hb : s.protection.backlight = .latchedOff) :
    PowerInv s.clearLatchedOff := by
  have emptied : PowerInv { s with protection := { s.protection with shutdownHistory := [] } } :=
    powerInv_calm h (calm_protection s _ rfl rfl)
  have dark : s.protection.backlight = .off ∨ s.protection.backlight = .thermalOff ∨ s.protection.backlight = .latchedOff :=
    Or.inr (Or.inr hb)
  unfold State.clearLatchedOff
  dsimp only
  refine keeps_ite (powerInv_setBacklight_dark emptied dark (Or.inl rfl)) (keeps_ite ?_ ?_)
  · exact powerInv_setBacklight_dark emptied dark (Or.inr (Or.inl rfl))
  · exact powerInv_powerUpOrOff emptied dark

theorem powerInv_clearProtection {s : State} (h : PowerInv s) : PowerInv s.clearProtection.1 := by
  unfold State.clearProtection
  dsimp only
  have cleared : PowerInv (if (s.protection.backlight == .latchedOff) = true then s.clearLatchedOff else s) := by
    split
    · next hb => exact powerInv_clearLatchedOff h (beq_iff_eq.1 hb)
    · exact h
  generalize (if (s.protection.backlight == .latchedOff) = true then s.clearLatchedOff else s) = t at cleared ⊢
  have released : PowerInv (if s.protection.trip.isSome = true then t.releaseTrip else t) :=
    keeps_ite (powerInv_calm cleared (calm_releaseTrip t)) cleared
  generalize (if s.protection.trip.isSome = true then t.releaseTrip else t) = u at released ⊢
  exact keeps_ite (powerInv_calm released (calm_protection u _ rfl rfl)) released

/-! ### Frames and line timers (R109, R114 to R123) -/

/-- A frame is built on a STARTING or RUNNING line only (R115). -/
theorem nextFrame_flies {s : State} {l : LineNo} {k : FrameKind} (h : s.nextFrame l = some k) :
    s.lines[l].state = .starting ∨ s.lines[l].state = .running := by
  unfold State.nextFrame at h
  dsimp only at h
  split at h
  · cases h
  · split at h
    · next e => exact Or.inl e
    · next e => exact Or.inr e
    all_goals cases h

theorem powerInv_built {s : State} (h : PowerInv s) {l : LineNo} {k : FrameKind} (hk : s.nextFrame l = some k) {f : Line → Line}
    (hf : (f s.lines[l]).state = s.lines[l].state) : PowerInv (s.modifyLine l f) := by
  refine powerInv_lineMoved h (lineMoved_modifyLine (fun _ => ?_) (Or.inl hf))
  rw [hf]
  exact nextFrame_flies hk

theorem powerInv_buildLevel {s : State} (h : PowerInv s) {l : LineNo} (hk : s.nextFrame l = some .level) :
    PowerInv (s.buildLevel l) := by
  unfold State.buildLevel
  split
  · exact powerInv_built h hk rfl
  · exact h

theorem powerInv_lineRuns {s : State} (h : PowerInv s) {l : LineNo} (hl : s.lines[l].state = .starting) :
    PowerInv (s.lineRuns l) := by
  unfold State.lineRuns
  refine powerInv_calm ?_ (calm_of_outside (outside_addEvent _ _ _ _))
  have lit := powerInv_lit h (l := l) (by rw [hl]; rintro (e | e) <;> cases e) (by rw [hl]; nofun)
  exact powerInv_lineMoved h (lineMoved_modifyLine (fun _ => Or.inr rfl) (Or.inr (Or.inr lit)))

theorem powerInv_frameSucceeds {s : State} (h : PowerInv s) (l : LineNo) (f : Frame) (bytes : List Byte) :
    PowerInv (s.frameSucceeds l f bytes) := by
  have freed : PowerInv (s.modifyLine l fun x => { x with inFlight := none, failures := 0 }) :=
    powerInv_calm h (calm_modifyLine l _ s rfl fun _ => rfl)
  unfold State.frameSucceeds
  dsimp only
  split
  · split
    · next e => exact powerInv_lineRuns freed e
    · exact freed
  · exact freed
  · exact powerInv_powerDownTest (powerInv_calm freed (calm_modifyLine l _ _ rfl id))
  · exact powerInv_calm freed (calm_actOnPoll l bytes _)

/-- A line with a frame in flight is neither OFF nor LOCKED. -/
theorem flying_awake {s : State} (h : PowerInv s) {l : LineNo} {f : Frame} (hf : s.lines[l].inFlight = some f) :
    ¬resting s.lines[l].state := by
  rcases h.flying l f hf with e | e
  all_goals
    rw [e]
    rintro (e | e) <;> cases e

/-- A failed frame (R118): at the third failure in a row the line is FAULTED or LOCKED, and OFF in a power-down (R122, R134). -/
theorem powerInv_frameFails {s : State} (h : PowerInv s) {l : LineNo} {f : Frame} (hf : s.lines[l].inFlight = some f) :
    PowerInv (s.frameFails l f) := by
  by_cases hn : 2 ≤ s.lines[l].failures
  · obtain ⟨u, e, lines, -, -, frame⟩ := frameFails_third hf hn
    have protection : u.protection = s.protection := frame .protection (by decide)
    generalize faultHistory s.lines[l] s.ms = history at lines
    generalize hy : (if faultLocks history s.ms then LineState.locked else .faulted) = y at lines
    have moved (m : LineNo) : u.lines[m] = if m = l then failedLine s.lines[l] f history y else s.lines[m] := by
      rw [lines]
      exact modifyLine_get l m (fun x => failedLine x f history y) s
    have same : u.lines[l] = failedLine s.lines[l] f history y := by rw [moved, if_pos rfl]
    have ends : y = .locked ∨ y = .faulted := by
      rw [← hy]
      split
      · exact Or.inl rfl
      · exact Or.inr rfl
    rw [e]
    refine powerInv_powerDownTest ?_
    split
    · have stopped (m : LineNo) :
          (u.stopOrder l).lines[m]
            = if m = l then (if y = .locked then failedLine s.lines[l] f history y else stoppedLine (failedLine s.lines[l] f history y))
              else s.lines[m] := by
        rw [stopOrder_get, same, moved]
        rcases ends with rfl | rfl
        all_goals
          by_cases hm : m = l
          · simp [hm, failedLine]
          · simp [hm]
      refine powerInv_lineMoved (l := l) h ⟨(outside_stopOrder l u .protection (by decide)).trans protection, stopped, ?_, ?_⟩
      · split
        · exact sound_free rfl
        · exact sound_stoppedLine _
      · refine Or.inr (Or.inl ?_)
        split
        · next e => exact Or.inr e
        · exact Or.inl rfl
    · next hb =>
      refine powerInv_lineMoved (l := l) h ⟨protection, moved, sound_free rfl, Or.inr ?_⟩
      rcases ends with rfl | rfl
      · exact Or.inl (Or.inr rfl)
      · exact Or.inr (powerInv_lit h (flying_awake h hf) fun _ => protection ▸ hb)
  · unfold State.frameFails
    dsimp only
    rw [if_neg (show ¬2 ≤ (s.setFlag .lineError).lines[l].failures from hn)]
    refine powerInv_calm h (calm_step (calm_modifyLine l _ _ ?_ fun _ => ?_) (calm_of_outside (outside_setFlag .lineError s)))
    all_goals
      unfold failedFrame
      rcases f.kind <;> rfl

theorem powerInv_lineStarts {s : State} (h : PowerInv s) {l : LineNo} (hl : s.lines[l].state = .waitSlot) :
    PowerInv (s.lineStarts l) := by
  have lit := powerInv_lit h (l := l) (by rw [hl]; rintro (e | e) <;> cases e) (by rw [hl]; nofun)
  have started : PowerInv (s.modifyLine l fun x => { x with state := .starting, stateTimer := .stopped }) :=
    powerInv_lineMoved h (lineMoved_modifyLine (fun _ => Or.inl rfl) (Or.inr (Or.inr lit)))
  unfold State.lineStarts
  dsimp only
  split
  · split
    · exact powerInv_backlight (powerInv_sound started) rfl
    · exact started
  all_goals exact started

theorem powerInv_retryLine {s : State} (h : PowerInv s) {l : LineNo} (hl : s.lines[l].state = .faulted) :
    PowerInv (s.retryLine l) := by
  unfold State.retryLine
  split
  · next hb => exact powerInv_startOrder h l hb
  · have free := sound_idle (powerInv_sound h l) (by rw [hl]; exact ⟨nofun, nofun⟩)
    exact powerInv_lineMoved h (lineMoved_modifyLine (sound_free free) (Or.inr (Or.inl (Or.inl rfl))))

theorem powerInv_clearLine {s : State} (h : PowerInv s) (l : LineNo) : PowerInv (s.clearLine l) := by
  have emptied : PowerInv (s.modifyLine l fun x => { x with history := [], failures := 0 }) :=
    powerInv_calm h (calm_modifyLine l _ s rfl id)
  unfold State.clearLine
  dsimp only
  generalize (s.modifyLine l fun x => { x with history := [], failures := 0 }) = t at emptied
  split
  · next hl =>
    have free := sound_idle (powerInv_sound emptied l) (by rw [hl]; exact ⟨nofun, nofun⟩)
    have off : PowerInv (t.modifyLine l fun x => { x with state := .off }) :=
      powerInv_lineMoved emptied (lineMoved_modifyLine (sound_free free) (Or.inr (Or.inl (Or.inl rfl))))
    split
    · next hb => exact powerInv_startOrder off l hb.1
    · exact off
  · exact emptied

/-! ### Sequencer and thermal protection (R133, R137 to R139) -/

theorem powerInv_powerUpStep {s : State} (h : PowerInv s) {l : LineNo} {rest : List LineNo} {m : LineNo}
    (hq : s.protection.sequencer = .up (l :: rest) m) :
    PowerInv ((s.setSequencer (.up rest l) (stepTimerFor rest)).startOrder l) := by
  have up := powerInv_poweringUp h hq
  have next : PowerInv (s.setSequencer (.up rest l) (stepTimerFor rest)) := by
    refine (powerInv_iff _).2 ⟨?_, fun k => powerInv_sound h k⟩
    show Stands s.protection.backlight (.up rest l) _
    rw [up]
    exact ⟨rest, l, rfl⟩
  exact powerInv_startOrder next l (Or.inr up)

theorem calm_setThermal (x : Thermal) (s : State) : Calm s (s.setThermal x) := by
  unfold State.setThermal
  exact calm_ite (calm_refl s) (calm_step (calm_of_outside (outside_addEvent _ _ _ _)) (calm_protection s _ rfl rfl))

theorem calm_setCoolDown (n : Nat) (s : State) : Calm s (s.setCoolDown n) := calm_protection s _ rfl rfl

/-- Every line has been stopped (R121, R138). -/
theorem stopLines_resting (s : State) (l : LineNo) :
    resting (forLines State.stopOrder s).lines[l].state ∧ (Sound s.lines[l] → Sound (forLines State.stopOrder s).lines[l]) := by
  have get : (forLines State.stopOrder s).lines[l]
      = if s.lines[l].state = .off ∨ s.lines[l].state = .locked then s.lines[l] else stoppedLine s.lines[l] := by
    rw [stopLines_eq]
    exact Vector.getElem_map ..
  rw [get]
  split
  · next e => exact ⟨e, id⟩
  · exact ⟨Or.inl rfl, fun _ => sound_stoppedLine _⟩

theorem powerInv_enterShutdown {s : State} (h : PowerInv s) : PowerInv s.enterShutdown := by
  unfold State.enterShutdown
  dsimp only
  have set : Calm s ((s.setThermal .shutdown).setCoolDown 0) := calm_step (calm_setCoolDown 0 _) (calm_setThermal .shutdown s)
  generalize (s.setThermal .shutdown).setCoolDown 0 = t at set
  have kept : Calm s { t with protection := { t.protection with shutdownHistory := historyAdd 7 s.ms s.protection.shutdownHistory } } :=
    calm_step (calm_protection t _ rfl rfl) set
  generalize ({ t with protection :=
    { t.protection with shutdownHistory := historyAdd 7 s.ms s.protection.shutdownHistory } } : State) = u at kept
  have agrees := powerInv_calm h kept
  rcases hb : s.protection.backlight.lit with _ | _
  · have dark : s.protection.backlight = .off ∨ s.protection.backlight = .thermalOff ∨ s.protection.backlight = .latchedOff := by
      rcases he : s.protection.backlight with _ | _ | _ | _ | _ | _
      all_goals rw [he] at hb
      case off | thermalOff | latchedOff => simp
      all_goals cases hb
    refine powerInv_setBacklight_dark agrees (by rw [kept.backlight]; exact dark) ?_
    split
    · exact Or.inr (Or.inr rfl)
    · exact dark
  · have idle (b : Backlight) (hd : b = .thermalOff ∨ b = .latchedOff) :
        PowerInv (forLines State.stopOrder ((u.setBacklight b).setSequencer .idle .stopped)) := by
      have stopped := stopLines_resting ((u.setBacklight b).setSequencer .idle .stopped)
      have protection : (forLines State.stopOrder ((u.setBacklight b).setSequencer .idle .stopped)).protection
          = { u.protection with backlight := b, sequencer := .idle, stepTimer := .stopped } := by
        refine (outside_forLines outside_stopOrder _ .protection (by decide)).trans ?_
        show ({ (u.setBacklight b).protection with sequencer := .idle, stepTimer := .stopped } : Protection) = _
        rw [setBacklight_protection]
      refine (powerInv_iff _).2 ⟨?_, fun l => (stopped l).2 ?_⟩
      · rw [protection]
        rcases hd with rfl | rfl <;> exact ⟨rfl, fun l => (stopped l).1⟩
      · show Sound (u.setBacklight b).lines[l]
        rw [setBacklight_lines]
        exact powerInv_sound agrees l
    rw [if_pos rfl]
    refine idle _ ?_
    split
    · exact Or.inr rfl
    · exact Or.inl rfl

theorem powerInv_leaveShutdown {s : State} (h : PowerInv s) : PowerInv s.leaveShutdown := by
  unfold State.leaveShutdown
  dsimp only
  generalize (if s.limits.warm ≤ boardTemp s.protection.codes + s.limits.thermalHysteresis then Thermal.warm
    else Thermal.normal) = x
  have set : PowerInv ((s.setThermal x).setCoolDown 0) :=
    powerInv_calm h (calm_step (calm_setCoolDown 0 _) (calm_setThermal x s))
  split
  · next hb =>
    refine keeps_ite (powerInv_powerUpOrOff set (Or.inr (Or.inl hb))) ?_
    exact powerInv_setBacklight_dark set (Or.inr (Or.inl hb)) (Or.inl rfl)
  · exact set

theorem powerInv_evalThermal {s : State} (h : PowerInv s) : PowerInv s.evalThermal := by
  have moves (x : Thermal) : PowerInv (s.setThermal x) := powerInv_calm h (calm_setThermal x s)
  have counts (n : Nat) : PowerInv (s.setCoolDown n) := powerInv_calm h (calm_setCoolDown n s)
  unfold State.evalThermal
  split
  · exact keeps_ite (keeps_ite (powerInv_leaveShutdown h) (counts _)) (counts 0)
  all_goals
    split
    · exact powerInv_enterShutdown h
    all_goals exact moves _

theorem calm_evalSupply (s : State) : Calm s s.evalSupply := by
  unfold State.evalSupply
  dsimp only
  refine calm_ite (calm_refl s) (calm_step (calm_of_outside (outside_setFlagIf _ _ _)) ?_)
  exact calm_step (calm_of_outside (outside_addEvent _ _ _ _)) (calm_protection s _ rfl rfl)

theorem powerInv_sample (c : SampleSet) {s : State} (h : PowerInv s) : PowerInv (s.sample c) := by
  unfold State.sample
  dsimp only
  have kept := powerInv_calm h (calm_step (calm_protection s.tickMs { s.tickMs.protection with codes := c } rfl rfl) (calm_tickMs s))
  exact powerInv_calm (powerInv_calm (powerInv_evalThermal kept) (calm_evalSupply _)) (calm_settleCeiling _ _)

/-! ### Every command -/

theorem powerInv_exec {c : Instr} {s t : State} (hs : PowerInv s) (h : exec c s = .next t) : PowerInv t := by
  have whenLive {f : State → State} (hf : ∀ s, PowerInv s → PowerInv (f s)) (e : (.next (s.whenLive f) : Out) = .next t) :
      PowerInv t := by
    cases e
    exact keeps_whenLive hf hs
  have quiet : ∀ s t, Outside [.ring, .freeCount] s t → PowerInv s → PowerInv t :=
    fun s t ho h => powerInv_calm h (calm_of_outside ho)
  have answers (data : List Injected) (a : Answer) {s : State} (hs : PowerInv s) : PowerInv (s.answer data a) :=
    quiet _ _ (outside_answer data a s) hs
  have runs {r : Row} {body : BitVec 1024 → State → State} (hb : ∀ snap s, PowerInv s → PowerInv (body snap s))
      (e : (.next (s.runCommand r body) : Out) = .next t) : PowerInv t := by
    cases e
    exact keeps_runCommand quiet r hb hs
  cases c
  case requestReceived r =>
    refine whenLive (fun s hs => keeps_ite hs (keeps_ite ?_ ?_)) h
    · exact powerInv_calm hs (calm_of_outside (outside_link s _))
    · exact powerInv_calm hs (calm_receive r s)
  case returnBeatReceived data =>
    refine whenLive (fun s hs => keeps_ite hs ?_) h
    split
    · exact powerInv_calm hs (calm_downstreamDown s)
    · exact powerInv_calm hs (calm_routeReturn _ _ data s)
  case downstreamLinkDown => exact whenLive (fun s hs => powerInv_calm hs (calm_downstreamDown s)) h
  case resetAsserted =>
    cases h
    obtain ⟨dark, up, on, falling, flying⟩ := powerInv_reset
    exact ⟨dark, up, on, falling, flying⟩
  case analysisCompletion =>
    refine whenLive (fun s hs => ?_) h
    split
    · exact powerInv_calm hs (calm_completeAnalysis _ s)
    · exact hs
  case supervisionTimerExpiry => exact whenLive (fun s hs => keeps_ite (powerInv_calm hs (calm_superviseExpire s)) hs) h
  case setupBuild l =>
    refine whenLive (fun s hs => ?_) h
    split
    · next hk => exact powerInv_built hs hk rfl
    · exact hs
  case levelBuild l =>
    refine whenLive (fun s hs => ?_) h
    split
    · next hk => exact powerInv_buildLevel hs hk
    · exact hs
  case latchBuild l =>
    refine whenLive (fun s hs => ?_) h
    split
    · next hk => exact powerInv_built hs hk rfl
    · exact hs
  case pollBuild l =>
    refine whenLive (fun s hs => ?_) h
    split
    · next hk => exact powerInv_built hs hk rfl
    · exact hs
  case latchEnd l =>
    refine whenLive (fun s hs => ?_) h
    split
    · next f hf =>
      refine keeps_ite ?_ hs
      have ended : PowerInv (s.modifyLine l fun x => { x with inFlight := some { f with ended := true } }) :=
        powerInv_calm hs (calm_modifyLine l _ s rfl fun e => by rw [hf] at e; cases e)
      exact powerInv_calm ended (calm_protection _ _ rfl rfl)
    · exact hs
  case returnCheck l bytes =>
    refine whenLive (fun s hs => ?_) h
    split
    · next f hf => exact keeps_ite (keeps_ite (powerInv_frameSucceeds hs l f bytes) (powerInv_frameFails hs hf)) hs
    · exact hs
  case timeout l =>
    refine whenLive (fun s hs => ?_) h
    split
    · next f hf => exact powerInv_frameFails hs hf
    · exact hs
  case waitSlotElapsed l =>
    refine whenLive (fun s hs => ?_) h
    split
    · next hd => exact powerInv_lineStarts hs hd.1
    · exact hs
  case retryDelayElapsed l =>
    refine whenLive (fun s hs => ?_) h
    split
    · next hd => exact powerInv_retryLine hs hd.1
    · exact hs
  case pollTimerExpiry l =>
    exact whenLive (fun s hs => keeps_ite (powerInv_calm hs (calm_modifyLine l _ s rfl id)) hs) h
  case powerUpStep =>
    refine whenLive (fun s hs => ?_) h
    split
    · next hq => exact keeps_ite (powerInv_powerUpStep hs hq) hs
    all_goals exact hs
  case powerDownStep =>
    refine whenLive (fun s hs => ?_) h
    split
    · next hd => exact powerInv_dropOne hs (powerInv_poweringDown hs (Or.inr hd.1))
    · exact hs
  case analogSample codes => exact whenLive (fun s hs => powerInv_sample codes hs) h
  case coolDownEnd codes => exact whenLive (fun s hs => keeps_ite (powerInv_sample codes hs) hs) h
  case ocTrip => exact whenLive (fun s hs => keeps_ite (powerInv_calm hs (calm_ocSample true s)) hs) h
  case overcurrentSample asserted => exact whenLive (fun s hs => powerInv_calm hs (calm_ocSample asserted s)) h
  case timedRelease =>
    refine whenLive (fun s hs => ?_) h
    split
    · exact keeps_ite (powerInv_calm hs (calm_releaseTrip s)) hs
    · exact hs
  case setGrid =>
    refine runs (fun snap s hs => ?_) h
    unfold State.runSetGrid
    split
    · exact answers _ _ hs
    · refine answers _ _ (powerInv_calm hs ?_)
      unfold State.replaceGrid
      refine calm_step (calm_forLines (fun l t => calm_modifyLine l clearSuspects t rfl id) _) ?_
      exact ⟨rfl, rfl, fun _ => rfl, fun _ => id⟩
  case backlightOn =>
    refine runs (fun snap s hs => keeps_ite ?_ (answers _ _ hs)) h
    have targeted := powerInv_setTarget hs true
    unfold State.backlightOn
    split
    · split
      · exact answers _ _ hs
      · exact answers _ _ (powerInv_powerUpBegin (powerInv_sound targeted))
    · exact answers _ _ targeted
    · exact answers _ _ targeted
    · exact answers _ _ hs
    · exact keeps_ite (answers _ _ hs) (answers _ _ hs)
    · exact answers _ _ hs
  case backlightOff =>
    exact runs (fun snap s hs => keeps_ite (answers _ _ (powerInv_backlightOff hs)) (answers _ _ hs)) h
  case tableLoadBegin =>
    refine whenLive (fun s hs => ?_) h
    split
    · exact hs
    · split
      · exact keeps_ite (powerInv_calm hs (calm_beginLoad _ s)) hs
      · exact hs
  case clearFaultLine =>
    refine runs (fun snap s hs => keeps_ite ?_ (answers _ _ hs)) h
    split
    · exact answers _ _ hs
    · exact answers _ _ (powerInv_clearLine hs _)
  case clearFaultZones =>
    refine runs (fun snap s hs => keeps_ite (answers _ _ (powerInv_calm hs ?_)) (answers _ _ hs)) h
    unfold State.clearZones
    refine calm_step (calm_forLines (fun l t => calm_modifyLine l clearZonesLine t rfl id) _) ?_
    exact calm_of_outside (outside_faults s _)
  case clearFaultProtection =>
    exact runs (fun snap s hs => keeps_ite (answers _ _ (powerInv_clearProtection hs)) (answers _ _ hs)) h
  all_goals exact powerInv_calm hs (calm_of_outside (exec_outside h) (by simp [touched]))

/-- Settles O57: every command keeps the agreement (`powerInv_exec`), so every step does. -/
theorem powerInvariantIsKept : Obligations.PowerInvariantIsKept := fun _ _ hs h =>
  step_keeps (fun _ _ hs => ⟨hs.dark, hs.up, hs.on, hs.falling, hs.flying⟩) (fun _ _ _ => powerInv_exec) hs h

end Sys2Proof.Laws
end

section
/-! SUPPORT. Changes of the duty ceiling and of the backlight state are signalled (R116, R130, R145) by every command. -/

namespace Sys2Proof.Laws

-- Each proof may wait for an earlier one; run one after another they need no thread each.
set_option Elab.async false

open Sys2Proof Sys2Proof.Machine Sys2Proof.Safety

/-! ### A change of the backlight state is an event (R130) -/

/-- A record of the present backlight state at the present millisecond. -/
def Reports (e : Event) (t : State) : Prop :=
  e.kind = .backlightState ∧ e.time = t.ms ∧ e.detail = BitVec.ofNat 16 (backlightCode t.protection.backlight)

/-- The event queue holds a record of the present backlight state. -/
def Recorded (t : State) : Prop := ∃ e ∈ t.events, Reports e t

/-- The latest event is a record of the present backlight state. -/
def Latest (t : State) : Prop := ∃ e, t.events.getLast? = some e ∧ Reports e t

/-- Backlight state, events and millisecond are as they were. -/
structure Unreported (s t : State) : Prop where
  backlight : t.protection.backlight = s.protection.backlight
  events : t.events = s.events
  ms : t.ms = s.ms

/-- Nothing was reported, or the present backlight state was, last of all. -/
def Reported (s t : State) : Prop := Unreported s t ∨ Latest t

/-- The backlight state is as it was, or the latest event is a record of it. -/
def BacklightLatest (s t : State) : Prop := t.protection.backlight = s.protection.backlight ∨ Latest t

/-- The backlight state is as it was, or the event queue holds a record of it. -/
def BacklightTold (s t : State) : Prop := t.protection.backlight = s.protection.backlight ∨ Recorded t

theorem unreported_refl (s : State) : Unreported s s := ⟨rfl, rfl, rfl⟩

theorem unreported_of_outside {ps : List Piece} {s t : State} (h : Outside ps s t)
    (hp : Piece.protection ∉ ps ∧ Piece.events ∉ ps ∧ Piece.ms ∉ ps := by decide) : Unreported s t :=
  ⟨congrArg Protection.backlight (h .protection hp.1), h .events hp.2.1, h .ms hp.2.2⟩

theorem reports_of_unreported {s t : State} {e : Event} (h : Reports e s) (k : Unreported s t) : Reports e t := by
  obtain ⟨kind, time, detail⟩ := h
  exact ⟨kind, time.trans k.ms.symm, by rw [k.backlight]; exact detail⟩

theorem latest_of_unreported {s t : State} (h : Latest s) (k : Unreported s t) : Latest t := by
  obtain ⟨e, he, reports⟩ := h
  exact ⟨e, by rw [k.events]; exact he, reports_of_unreported reports k⟩

theorem recorded_of_latest {t : State} (h : Latest t) : Recorded t := by
  obtain ⟨e, he, reports⟩ := h
  exact ⟨e, List.mem_of_getLast? he, reports⟩

theorem reported_refl (s : State) : Reported s s := Or.inl (unreported_refl s)

theorem reported_trans {s t u : State} (h : Reported s t) (k : Reported t u) : Reported s u := by
  rcases k with k | k
  · refine h.imp (fun h => ?_) fun h => latest_of_unreported h k
    exact ⟨k.backlight.trans h.backlight, k.events.trans h.events, k.ms.trans h.ms⟩
  · exact Or.inr k

theorem reported_of_outside {ps : List Piece} {s t : State} (h : Outside ps s t)
    (hp : Piece.protection ∉ ps ∧ Piece.events ∉ ps ∧ Piece.ms ∉ ps := by decide) : Reported s t :=
  Or.inl (unreported_of_outside h hp)

theorem latest_of_reported {s t : State} (h : Reported s t) : BacklightLatest s t := h.imp_left Unreported.backlight

theorem backlightLatest_step {s t u : State} (h : t.protection.backlight = s.protection.backlight) (k : BacklightLatest t u) :
    BacklightLatest s u := k.imp_left fun e => e.trans h

theorem told_of_latest {s t : State} (h : BacklightLatest s t) : BacklightTold s t := h.imp_right recorded_of_latest

theorem backlightTold_step {s t u : State} (h : BacklightTold s t) (k : Unreported t u) : BacklightTold s u := by
  refine h.imp k.backlight.trans ?_
  rintro ⟨e, he, reports⟩
  exact ⟨e, by rw [k.events]; exact he, reports_of_unreported reports k⟩

/-- One more event leaves the latest record in the queue (R167). -/
theorem backlightTold_addEvent {s t : State} (h : BacklightLatest s t) (k : EventKind) (x : Subject) (d : Nat) :
    BacklightTold s (t.addEvent k x d) := by
  refine h.imp (fun e => by rw [addEvent_protection, e]) ?_
  rintro ⟨e, he, reports⟩
  obtain ⟨front, same⟩ := List.getLast?_eq_some_iff.1 he
  refine ⟨e, ?_, ?_⟩
  · rw [events_addEvent, eventsAfter, same]
    refine List.mem_append_left _ ?_
    rw [List.drop_append_of_le_length (by simp)]
    simp
  · obtain ⟨kind, time, detail⟩ := reports
    refine ⟨kind, time.trans ?_, by rw [addEvent_protection]; exact detail⟩
    exact (outside_addEvent k x d t .ms (by decide)).symm

theorem latest_addEvent {t : State} :
    Latest (t.addEvent .backlightState .none (backlightCode t.protection.backlight)) := by
  refine ⟨_, by rw [events_addEvent]; exact List.getLast?_concat .., rfl, ?_, ?_⟩
  · exact (outside_addEvent _ _ _ t .ms (by decide)).symm
  · rw [addEvent_protection]

theorem reported_setBacklight (b : Backlight) (s : State) : Reported s (s.setBacklight b) := by
  unfold State.setBacklight
  split
  · exact reported_refl s
  · exact Or.inr (latest_addEvent (t := { s with protection := { s.protection with backlight := b } }))

theorem reported_protection (s : State) (p : Protection) (hb : p.backlight = s.protection.backlight) :
    Reported s { s with protection := p } := Or.inl ⟨hb, rfl, rfl⟩

theorem reported_step {s t u : State} (k : Reported t u) (h : Reported s t) : Reported s u := reported_trans h k

theorem reported_ite {c : Prop} [Decidable c] {s t u : State} (ht : Reported s t) (hu : Reported s u) :
    Reported s (if c then t else u) := by
  split
  · exact ht
  · exact hu

theorem reported_setSequencer (q : Sequencer) (n : Timer) (s : State) : Reported s (s.setSequencer q n) :=
  reported_protection s _ rfl

theorem reported_powerUpBegin (s : State) : Reported s s.powerUpBegin := by
  unfold State.powerUpBegin
  dsimp only
  split
  · exact reported_step (reported_setBacklight _ _) (reported_step (reported_setSequencer _ _ _) (reported_setBacklight _ s))
  · refine reported_step (reported_of_outside (outside_startOrder _ _)) ?_
    exact reported_step (reported_setSequencer _ _ _) (reported_setBacklight _ s)

theorem reported_powerDownEnd (s : State) : Reported s s.powerDownEnd := by
  refine reported_step (reported_of_outside (outside_settleCeiling _ _)) ?_
  exact reported_step (reported_setBacklight _ _) (reported_setSequencer _ _ s)

theorem reported_dropOne (s : State) : Reported s s.dropOne := by
  unfold State.dropOne
  split
  · exact reported_powerDownEnd s
  · next l _ =>
    have stopped := reported_of_outside (outside_stopOrder l s)
    dsimp only
    split
    · exact reported_step (reported_powerDownEnd _) stopped
    · exact reported_step (reported_setSequencer _ _ _) stopped

theorem reported_powerDownTest (s : State) : Reported s s.powerDownTest := by
  unfold State.powerDownTest
  split
  · exact reported_ite (reported_dropOne s) (reported_refl s)
  · exact reported_ite (reported_powerDownEnd s) (reported_refl s)
  · exact reported_refl s
  · exact reported_refl s

theorem reported_powerDownBegin (s : State) : Reported s s.powerDownBegin := by
  rw [powerDownBegin_eq]
  refine reported_step (reported_powerDownTest _) ?_
  unfold fallingState
  refine reported_step (reported_of_outside (outside_forLines (fun l t => outside_stopUnlessRunning l t) _)) ?_
  refine reported_step (reported_of_outside (outside_settleCeiling _ _)) ?_
  exact reported_step (reported_setSequencer _ _ _) (reported_setBacklight _ s)

theorem reported_powerUpOrOff (s : State) : Reported s s.powerUpOrOff :=
  reported_ite (reported_powerUpBegin s) (reported_step (reported_setBacklight _ _) (reported_protection s _ rfl))

theorem reported_backlightOff (s : State) : Reported s s.backlightOff := by
  have targeted : Reported s (s.setTarget false) := reported_protection s _ rfl
  unfold State.backlightOff
  dsimp only
  split
  · exact targeted
  · exact reported_step (reported_powerDownBegin _) targeted
  · exact reported_step (reported_powerDownBegin _) targeted
  · exact targeted
  · exact reported_step (reported_setBacklight _ _) targeted
  · exact targeted

theorem reported_lineStarts (l : LineNo) (s : State) : Reported s (s.lineStarts l) := by
  have started := reported_of_outside (outside_modifyLine l (fun x => { x with state := .starting, stateTimer := .stopped }) s)
  unfold State.lineStarts
  dsimp only
  split
  · refine reported_ite (reported_step (reported_setBacklight _ _) ?_) started
    exact reported_step (reported_setSequencer _ _ _) started
  all_goals exact started

theorem backlightLatest_frameFails {l : LineNo} {f : Frame} {s : State} (hf : s.lines[l].inFlight = some f) :
    BacklightLatest s (s.frameFails l f) := by
  by_cases hn : 2 ≤ s.lines[l].failures
  · obtain ⟨u, e, -, -, -, frame⟩ := frameFails_third hf hn
    have protection : u.protection = s.protection := frame .protection (by decide)
    have stopped : (if u.protection.backlight = .poweringDown then u.stopOrder l else u).protection = s.protection := by
      split
      · exact (outside_stopOrder l u .protection (by decide)).trans protection
      · exact protection
    rw [e]
    exact backlightLatest_step (congrArg Protection.backlight stopped) (latest_of_reported (reported_powerDownTest _))
  · left
    rw [frameFails_again f (Nat.not_le.1 hn)]

theorem backlightLatest_then {s t u : State} (h : BacklightLatest s t) (k : Unreported t u) : BacklightLatest s u :=
  h.imp k.backlight.trans fun e => latest_of_unreported e k

theorem backlightLatest_enterShutdown (s : State) : BacklightLatest s s.enterShutdown := by
  unfold State.enterShutdown
  dsimp only
  have set : Calm s ((s.setThermal .shutdown).setCoolDown 0) := calm_step (calm_setCoolDown 0 _) (calm_setThermal .shutdown s)
  generalize (s.setThermal .shutdown).setCoolDown 0 = t at set
  have kept : ({ t with protection := { t.protection with shutdownHistory := historyAdd 7 s.ms s.protection.shutdownHistory } }
      : State).protection.backlight = s.protection.backlight := set.backlight
  generalize ({ t with protection :=
    { t.protection with shutdownHistory := historyAdd 7 s.ms s.protection.shutdownHistory } } : State) = u at kept
  refine backlightLatest_step kept (latest_of_reported (reported_ite ?_ (reported_setBacklight _ u)))
  refine reported_step (reported_of_outside (outside_forLines outside_stopOrder _)) ?_
  exact reported_step (reported_setSequencer _ _ _) (reported_setBacklight _ u)

theorem backlightLatest_leaveShutdown (s : State) : BacklightLatest s s.leaveShutdown := by
  unfold State.leaveShutdown
  dsimp only
  generalize (if s.limits.warm ≤ boardTemp s.protection.codes + s.limits.thermalHysteresis then Thermal.warm
    else Thermal.normal) = x
  have set : Calm s ((s.setThermal x).setCoolDown 0) := calm_step (calm_setCoolDown 0 _) (calm_setThermal x s)
  refine backlightLatest_step set.backlight (latest_of_reported ?_)
  exact reported_ite (reported_ite (reported_powerUpOrOff _) (reported_setBacklight _ _)) (reported_refl _)

theorem backlightLatest_evalThermal (s : State) : BacklightLatest s s.evalThermal := by
  have moves (x : Thermal) : BacklightLatest s (s.setThermal x) := Or.inl (calm_setThermal x s).backlight
  unfold State.evalThermal
  split
  · split
    · split
      · exact backlightLatest_leaveShutdown s
      · exact Or.inl rfl
    · exact Or.inl rfl
  all_goals
    split
    · exact backlightLatest_enterShutdown s
    all_goals exact moves _

theorem backlightTold_evalSupply {s t : State} (h : BacklightLatest s t) : BacklightTold s t.evalSupply := by
  unfold State.evalSupply
  dsimp only
  split
  · exact told_of_latest h
  · refine backlightTold_step (backlightTold_addEvent (backlightLatest_then h ?_) _ _ _)
      (unreported_of_outside (outside_setFlagIf _ _ _))
    exact ⟨rfl, rfl, rfl⟩

theorem backlightTold_sample (c : SampleSet) (s : State) : BacklightTold s (s.sample c) := by
  unfold State.sample
  dsimp only
  refine backlightTold_step (backlightTold_evalSupply ?_) (unreported_of_outside (outside_settleCeiling _ _))
  exact backlightLatest_step (calm_tickMs s).backlight (backlightLatest_evalThermal _)

theorem reported_clearLatchedOff (s : State) : Reported s s.clearLatchedOff := by
  have emptied : Reported s { s with protection := { s.protection with shutdownHistory := [] } } := reported_protection s _ rfl
  unfold State.clearLatchedOff
  dsimp only
  refine reported_ite (reported_step (reported_setBacklight _ _) emptied) (reported_ite ?_ ?_)
  · exact reported_step (reported_setBacklight _ _) emptied
  · exact reported_step (reported_powerUpOrOff _) emptied

theorem backlightTold_clearProtection (s : State) : BacklightTold s s.clearProtection.1 := by
  unfold State.clearProtection
  dsimp only
  have cleared := latest_of_reported (reported_ite (c := (s.protection.backlight == .latchedOff) = true) (reported_clearLatchedOff s)
    (reported_refl s))
  generalize (if (s.protection.backlight == .latchedOff) = true then s.clearLatchedOff else s) = t at cleared ⊢
  have released : BacklightTold s (if s.protection.trip.isSome = true then t.releaseTrip else t) := by
    split
    · unfold State.releaseTrip
      split
      · exact told_of_latest cleared
      · refine backlightTold_addEvent (backlightLatest_then cleared ?_) _ _ _
        exact ⟨rfl, rfl, rfl⟩
    · exact told_of_latest cleared
  generalize (if s.protection.trip.isSome = true then t.releaseTrip else t) = u at released ⊢
  split
  · exact backlightTold_step released ⟨rfl, rfl, rfl⟩
  · exact released

/-! ### A change of the duty ceiling is signalled (R145, R116) -/

/-- Every channel below the driver count is dirty, a LATCH is owed, and the ceiling is not latched. -/
def Relit (n : Nat) (x : Line) : Prop :=
  x.dirty &&& channelsBelow n = channelsBelow n ∧ x.latchOwed = true ∧ x.ceilingLatched = false

/-- A line that is RUNNING before and after a change of the ceiling is marked. -/
def CeilingTold (s t : State) : Prop :=
  ∀ l : LineNo, t.ceiling ≠ s.ceiling → s.lines[l].state = .running → t.lines[l].state = .running →
    Relit (s.driverCount l) t.lines[l]

theorem relit_markedLine (n : Nat) (x : Line) : Relit n (markedLine n x) := by
  refine ⟨?_, rfl, rfl⟩
  show (x.dirty ||| channelsBelow n) &&& channelsBelow n = channelsBelow n
  ext i hi
  rw [BitVec.getElem_and, BitVec.getElem_or]
  cases (channelsBelow n)[i]
  · exact Bool.and_false _
  · rw [Bool.or_true, Bool.and_true]

theorem ceilingTold_of_eq {s t : State} (h : t.ceiling = s.ceiling) : CeilingTold s t := fun _ hn => absurd h hn

/-- The figures that the ceiling comes from are as they were (R145). -/
structure Steady (s t : State) : Prop where
  backlight : t.protection.backlight = .poweringDown ↔ s.protection.backlight = .poweringDown
  thermal : t.protection.thermal = s.protection.thermal
  limits : t.limits = s.limits

theorem Steady.ceiling {s t : State} (h : Steady s t) : t.ceiling = s.ceiling := by
  unfold State.ceiling
  rw [h.thermal, h.limits]
  exact if_congr h.backlight rfl rfl

theorem steady_refl (s : State) : Steady s s := ⟨Iff.rfl, rfl, rfl⟩

theorem steady_step {s t u : State} (k : Steady t u) (h : Steady s t) : Steady s u :=
  ⟨k.backlight.trans h.backlight, k.thermal.trans h.thermal, k.limits.trans h.limits⟩

theorem steady_of_outside {ps : List Piece} {s t : State} (h : Outside ps s t)
    (hp : Piece.protection ∉ ps ∧ Piece.tables ∉ ps := by decide) : Steady s t := by
  have protection : t.protection = s.protection := h .protection hp.1
  exact ⟨by rw [protection], by rw [protection], limits_congr (h .tables hp.2)⟩

theorem steady_protection (s : State) (p : Protection)
    (hb : p.backlight = .poweringDown ↔ s.protection.backlight = .poweringDown) (ht : p.thermal = s.protection.thermal) :
    Steady s { s with protection := p } := ⟨hb, ht, rfl⟩

theorem steady_ite {c : Prop} [Decidable c] {s t u : State} (ht : Steady s t) (hu : Steady s u) : Steady s (if c then t else u) := by
  split
  · exact ht
  · exact hu

theorem steady_foldl {α : Type} {f : State → α → State} (h : ∀ s a, Steady s (f s a)) (as : List α) (s : State) :
    Steady s (as.foldl f s) := by
  induction as generalizing s with
  | nil => exact steady_refl s
  | cons a as ih => exact steady_step (ih _) (h s a)

/-- A change between backlight states neither of which is POWERING_DOWN. -/
theorem steady_setBacklight {b : Backlight} {s : State} (hb : b ≠ .poweringDown) (hs : s.protection.backlight ≠ .poweringDown) :
    Steady s (s.setBacklight b) := by
  have protection := setBacklight_protection b s
  refine ⟨?_, by rw [protection], limits_congr (outside_setBacklight b s .tables (by decide))⟩
  rw [protection]
  exact iff_of_false hb hs

theorem steady_setSequencer (q : Sequencer) (n : Timer) (s : State) : Steady s (s.setSequencer q n) :=
  steady_protection s _ Iff.rfl rfl

theorem steady_releaseTrip (s : State) : Steady s s.releaseTrip := by
  unfold State.releaseTrip
  split
  · exact steady_refl s
  · exact steady_step (steady_of_outside (outside_addEvent _ _ _ _)) (steady_protection s _ Iff.rfl rfl)

theorem steady_powerUpBegin {s : State} (hs : s.protection.backlight ≠ .poweringDown) : Steady s s.powerUpBegin := by
  have set := steady_setBacklight (b := .poweringUp) nofun hs
  have up : (s.setBacklight .poweringUp).protection.backlight ≠ .poweringDown := by
    rw [setBacklight_protection]
    nofun
  unfold State.powerUpBegin
  dsimp only
  split
  · exact steady_step (steady_setBacklight nofun up) (steady_step (steady_setSequencer _ _ _) set)
  · exact steady_step (steady_of_outside (outside_startOrder _ _)) (steady_step (steady_setSequencer _ _ _) set)

theorem steady_setTarget (x : Bool) (s : State) : Steady s (s.setTarget x) := steady_protection s _ Iff.rfl rfl

theorem steady_powerUpOrOff {s : State} (hs : s.protection.backlight ≠ .poweringDown) : Steady s s.powerUpOrOff :=
  steady_ite (steady_powerUpBegin hs) (steady_step (steady_setBacklight nofun hs) (steady_setTarget false s))

theorem steady_clearLatchedOff {s : State} (hs : s.protection.backlight ≠ .poweringDown) : Steady s s.clearLatchedOff := by
  have emptied : Steady s { s with protection := { s.protection with shutdownHistory := [] } } :=
    steady_protection s _ Iff.rfl rfl
  unfold State.clearLatchedOff
  dsimp only
  refine steady_ite (steady_step (steady_setBacklight nofun hs) emptied) (steady_ite ?_ ?_)
  · exact steady_step (steady_setBacklight nofun hs) emptied
  · exact steady_step (steady_powerUpOrOff hs) emptied

theorem steady_clearProtection (s : State) : Steady s s.clearProtection.1 := by
  unfold State.clearProtection
  dsimp only
  have cleared : Steady s (if (s.protection.backlight == .latchedOff) = true then s.clearLatchedOff else s) := by
    split
    · next hb => exact steady_clearLatchedOff (by rw [beq_iff_eq.1 hb]; nofun)
    · exact steady_refl s
  generalize (if (s.protection.backlight == .latchedOff) = true then s.clearLatchedOff else s) = t at cleared ⊢
  have released : Steady s (if s.protection.trip.isSome = true then t.releaseTrip else t) :=
    steady_ite (steady_step (steady_releaseTrip t) cleared) cleared
  generalize (if s.protection.trip.isSome = true then t.releaseTrip else t) = u at released ⊢
  exact steady_ite (steady_step (steady_protection u _ Iff.rfl rfl) released) released

theorem steady_receive (r : Request) (s : State) : Steady s (s.receive r) := by
  have enqueued := steady_of_outside (outside_enqueue r s)
  unfold State.receive
  split
  · exact steady_step (steady_of_outside (outside_handWrites r _ _ _ _)) enqueued
  · refine steady_step (steady_foldl (fun t c => ?_) _ _) enqueued
    unfold State.handRead
    split
    · refine steady_ite ?_ (steady_refl t)
      unfold State.scanBeat
      refine steady_ite ?_ (steady_ite (steady_of_outside (outside_advance _ _ t)) (steady_refl t))
      unfold State.scanStart
      have release (u : State) : Steady u (u.releaseTripOf .nextScan) := by
        unfold State.releaseTripOf
        split
        · exact steady_refl u
        · exact steady_ite (steady_releaseTrip u) (steady_refl u)
      refine steady_step (release _) (steady_step (steady_of_outside (outside_restartSupervision _)) ?_)
      refine steady_step (steady_of_outside (outside_commitOrHold _ _)) ?_
      exact steady_step (steady_of_outside (outside_replaceScan _ _ _)) (steady_of_outside (outside_flushScan t))
    · exact steady_refl t

theorem steady_tickUs (s : State) : Steady s s.tickUs := by
  unfold State.tickUs
  refine steady_step (steady_of_outside (outside_forLines (fun l t => outside_modifyLine l lineUs t) _)) ?_
  exact steady_protection s _ Iff.rfl rfl

theorem steady_ocSample (asserted : Bool) (s : State) : Steady s (s.ocSample asserted) := by
  unfold State.ocSample
  have ticked := steady_tickUs s
  dsimp only
  refine steady_ite ?_ (steady_step (steady_protection s.tickUs _ Iff.rfl rfl) ticked)
  unfold State.tripNow
  dsimp only
  refine steady_step (steady_of_outside (outside_addEvent _ _ _ _)) (steady_step (steady_of_outside (outside_setFlag _ _)) ?_)
  exact steady_step (steady_protection s.tickUs _ Iff.rfl rfl) ticked

/-! ### Power-downs (R134, R135) -/

/-- A line that is still RUNNING in `t` is as it was in `s`, and so is the ceiling. -/
def Settles (s t : State) : Prop := ∀ l : LineNo, t.lines[l].state = .running → t.lines[l] = s.lines[l] ∧ t.ceiling = s.ceiling

theorem settles_refl (s : State) : Settles s s := fun _ _ => ⟨rfl, rfl⟩

theorem settles_powerDownEnd {s : State} (s' : State) (hr : ∀ l : LineNo, s.lines[l].state ≠ .running) :
    Settles s' s.powerDownEnd := by
  intro l hl
  have calm := calm_settleCeiling s.ceiling ((s.setSequencer .idle .stopped).setBacklight .off)
  rw [show s.powerDownEnd.lines[l].state = _ from calm.state l, setBacklight_lines] at hl
  exact absurd hl (hr l)

theorem settles_dropOne (s : State) : Settles s s.dropOne := by
  unfold State.dropOne
  split
  · next hn => exact settles_powerDownEnd s (none_running hn)
  · next m hm =>
    dsimp only
    split
    · next hn => exact settles_powerDownEnd s (none_running hn)
    · intro l hl
      have frame := outside_stopOrder m s
      have steady := steady_step (steady_setSequencer .dropping (.running 0) (s.stopOrder m)) (steady_of_outside frame)
      refine ⟨?_, steady.ceiling⟩
      change (s.stopOrder m).lines[l].state = .running at hl
      show (s.stopOrder m).lines[l] = s.lines[l]
      rw [stopOrder_get] at hl ⊢
      split at hl
      · cases hl
      · next h => exact if_neg h

theorem settles_powerDownTest (s : State) : Settles s s.powerDownTest := by
  unfold State.powerDownTest
  split
  · split
    · exact settles_dropOne s
    · exact settles_refl s
  · split
    · next hn => exact settles_powerDownEnd s (none_running hn)
    · exact settles_refl s
  · exact settles_refl s
  · exact settles_refl s

theorem ceilingTold_of_settles {s u t : State} (h : Steady s u) (k : Settles u t) : CeilingTold s t := by
  intro l hn _ hl
  exact absurd ((k l hl).2.trans h.ceiling) hn

/-- The beginning of a power-down (R134) marks the RUNNING lines unless the ceiling was 0. -/
theorem ceilingTold_powerDownBegin {s : State} (hb : s.protection.backlight ≠ .poweringDown) : CeilingTold s s.powerDownBegin := by
  intro l hn hs ht
  obtain ⟨protection, lines, -, -⟩ := fallingState_spec s hb
  have zero : (fallingState s).ceiling = 0 := ceiling_falling (by rw [protection])
  rw [powerDownBegin_eq] at hn ht ⊢
  obtain ⟨line, ceiling⟩ := settles_powerDownTest (fallingState s) l ht
  have lit : ¬s.ceiling = 0 := fun e => hn (ceiling.trans (zero.trans e.symm))
  rw [line, lines, if_pos hs, if_neg lit]
  exact relit_markedLine _ _

theorem ceilingTold_from {s u t : State} (hl : u.lines = s.lines) (hc : u.ceiling = s.ceiling)
    (hd : ∀ l, u.driverCount l = s.driverCount l) (h : CeilingTold u t) : CeilingTold s t := by
  intro l hn hs ht
  rw [← hd]
  exact h l (by rw [hc]; exact hn) (by rw [hl]; exact hs) ht

theorem ceilingTold_before {ps : List Piece} {s u t : State} (o : Outside ps s u)
    (hp : Piece.lines ∉ ps ∧ Piece.protection ∉ ps ∧ Piece.tables ∉ ps) (h : CeilingTold u t) : CeilingTold s t := by
  have tables : u.tables = s.tables := o .tables hp.2.2
  refine ceilingTold_from (o .lines hp.1) (ceiling_congr (o .protection hp.2.1) tables) (fun l => ?_) h
  unfold State.driverCount
  rw [tables]

theorem ceilingTold_after {ps : List Piece} {s t u : State} (o : Outside ps t u)
    (hp : Piece.lines ∉ ps ∧ Piece.protection ∉ ps ∧ Piece.tables ∉ ps) (h : CeilingTold s t) : CeilingTold s u := by
  have lines : u.lines = t.lines := o .lines hp.1
  have ceiling : u.ceiling = t.ceiling := ceiling_congr (o .protection hp.2.1) (o .tables hp.2.2)
  intro l hn hs ht
  rw [lines] at ht ⊢
  exact h l (by rw [← ceiling]; exact hn) hs ht

theorem ceilingTold_backlightOff (s : State) : CeilingTold s s.backlightOff := by
  have targeted := steady_setTarget false s
  have begins (hb : s.protection.backlight ≠ .poweringDown) : CeilingTold s (s.setTarget false).powerDownBegin := by
    intro l hn hs ht
    exact ceilingTold_powerDownBegin (s := s.setTarget false) hb l (by rw [targeted.ceiling]; exact hn) hs ht
  unfold State.backlightOff
  dsimp only
  split
  · exact ceilingTold_of_eq targeted.ceiling
  · next hb => exact begins (by rw [hb]; nofun)
  · next hb => exact begins (by rw [hb]; nofun)
  · exact ceilingTold_of_eq targeted.ceiling
  · next hb =>
    have other : (s.setTarget false).protection.backlight ≠ .poweringDown := by
      show s.protection.backlight ≠ _
      rw [hb]
      nofun
    exact ceilingTold_of_eq (steady_step (steady_setBacklight (b := .off) nofun other) targeted).ceiling
  · exact ceilingTold_of_eq targeted.ceiling

/-! ### Frames, line starts and samples -/

theorem ceilingTold_frameFails {s : State} {l : LineNo} {f : Frame} (hf : s.lines[l].inFlight = some f) :
    CeilingTold s (s.frameFails l f) := by
  by_cases hn : 2 ≤ s.lines[l].failures
  · obtain ⟨u, e, -, -, -, frame⟩ := frameFails_third hf hn
    have faulted := steady_of_outside frame
    rw [e]
    refine ceilingTold_of_settles (steady_ite ?_ faulted) (settles_powerDownTest _)
    exact steady_step (steady_of_outside (outside_stopOrder l u)) faulted
  · rw [frameFails_again f (Nat.not_le.1 hn)]
    exact ceilingTold_of_eq (ceiling_congr rfl rfl)

theorem ceilingTold_frameSucceeds (l : LineNo) (f : Frame) (bytes : List Byte) (s : State) :
    CeilingTold s (s.frameSucceeds l f bytes) := by
  have freed := steady_of_outside (outside_modifyLine l (fun x => { x with inFlight := none, failures := 0 }) s)
  unfold State.frameSucceeds
  dsimp only
  split
  · exact ceilingTold_of_eq (steady_ite (steady_step (steady_of_outside (outside_lineRuns _ _)) freed) freed).ceiling
  · exact ceilingTold_of_eq freed.ceiling
  · exact ceilingTold_of_settles (steady_step (steady_of_outside (outside_modifyLine l _ _)) freed) (settles_powerDownTest _)
  · exact ceilingTold_of_eq (steady_step (steady_of_outside (outside_actOnPoll l bytes _)) freed).ceiling

theorem backlightLatest_frameSucceeds (l : LineNo) (f : Frame) (bytes : List Byte) (s : State) :
    BacklightLatest s (s.frameSucceeds l f bytes) := by
  have freed := outside_modifyLine l (fun x => { x with inFlight := none, failures := 0 }) s
  unfold State.frameSucceeds
  dsimp only
  split
  · left
    split
    · exact congrArg Protection.backlight ((outside_lineRuns _ _ .protection (by decide)).trans (freed .protection (by decide)))
    · rfl
  · exact Or.inl rfl
  · refine latest_of_reported (reported_step (reported_powerDownTest _) ?_)
    exact reported_step (reported_of_outside (outside_modifyLine l _ _)) (reported_of_outside freed)
  · exact Or.inl (congrArg Protection.backlight ((outside_actOnPoll l bytes _ .protection (by decide))))

theorem steady_lineStarts {s : State} (h : PowerInv s) (l : LineNo) : Steady s (s.lineStarts l) := by
  have started := steady_of_outside (outside_modifyLine l (fun x => { x with state := .starting, stateTimer := .stopped }) s)
  unfold State.lineStarts
  dsimp only
  split
  · next hq =>
    have up := powerInv_poweringUp h hq
    refine steady_ite (steady_step (steady_setBacklight nofun ?_) (steady_step (steady_setSequencer _ _ _) started)) started
    show s.protection.backlight ≠ _
    rw [up]
    nofun
  all_goals exact started

theorem ceilingTold_sample (c : SampleSet) (s : State) : CeilingTold s (s.sample c) := by
  have sample : s.sample c = (sampled s c).evalThermal.evalSupply.settleCeiling s.ceiling := by
    unfold State.sample
    dsimp only
    rw [tickMs_sampled]
  have frame : Outside evalPieces (sampled s c) (sampled s c).evalThermal.evalSupply :=
    outside_step (outside_evalSupply _) (by decide) (outside_mono (outside_evalThermal _) (by decide))
  obtain ⟨-, -, -, -, -, -, lines, -, -⟩ := settled_sample frame
  rw [sample]
  intro l hn _ ht
  have calm := calm_settleCeiling s.ceiling (sampled s c).evalThermal.evalSupply
  rw [lines, if_pos ⟨hn, (calm.state l).symm.trans ht⟩]
  exact relit_markedLine _ _

/-! ### Tables (R145, R158) -/

theorem ceilingTold_setTableState (id : TableId) (x : TableState) (s : State) : CeilingTold s (s.setTableState id x) := by
  intro l hn hs _
  rw [setTableState_get, if_pos ⟨hn, hs⟩]
  exact relit_markedLine _ _

theorem ceilingTold_failLoad (id : TableId) (a : Answer) (s : State) : CeilingTold s (s.failLoad id a) := by
  unfold State.failLoad
  refine ceilingTold_after (outside_answer _ _ _) (by decide) (ceilingTold_after (outside_addEvent _ _ _ _) (by decide) ?_)
  exact ceilingTold_setTableState id .invalid s

theorem ceilingTold_endLoad (l : Load) (sum : BitVec 16) (s : State) : CeilingTold s (s.endLoad l sum) := by
  have passes : CeilingTold s (s.passLoad l) :=
    ceilingTold_after (outside_answer _ _ _) (by decide) (ceilingTold_setTableState l.table .valid s)
  unfold State.endLoad
  split
  · split
    · split
      · exact ceilingTold_failLoad _ _ s
      · exact passes
    · exact passes
  · exact ceilingTold_failLoad _ _ s

/-- The limits in force come from the LIMITS table and its state alone. -/
theorem limits_of_table {s t : State} (hs : t.tables.stateOf .limits = s.tables.stateOf .limits)
    (hl : t.tables.limits = s.tables.limits) : t.limits = s.limits := by
  change t.tables.limitsState = s.tables.limitsState at hs
  unfold State.limits
  rw [hs, hl]

theorem steady_setTableState {id : TableId} (h : id ≠ .limits) (x : TableState) (s : State) : Steady s (s.setTableState id x) := by
  have protection : (s.setTableState id x).protection = s.protection := outside_setTableState id x s .protection (by decide)
  refine ⟨by rw [protection], by rw [protection], limits_of_table ?_ ?_⟩
  · rw [setTableState_tables, stateOf_withState, if_neg (Ne.symm h)]
  · rw [setTableState_tables, (withState_contents _ _ _).limits]

theorem steady_endLoad {l : Load} (h : l.table ≠ .limits) (sum : BitVec 16) (s : State) : Steady s (s.endLoad l sum) := by
  have fails (a : Answer) : Steady s (s.failLoad l.table a) := by
    unfold State.failLoad
    refine steady_step (steady_of_outside (outside_answer _ _ _)) (steady_step (steady_of_outside (outside_addEvent _ _ _ _)) ?_)
    exact steady_setTableState h .invalid s
  have passes : Steady s (s.passLoad l) :=
    steady_step (steady_of_outside (outside_answer _ _ _)) (steady_setTableState h .valid s)
  unfold State.endLoad
  refine steady_ite (steady_ite ?_ passes) (fails _)
  split
  · exact fails _
  · exact passes

/-- A beat of a fetch: LIMITS is LOADING while its bytes arrive, so they do not move the ceiling (R145, R158). -/
theorem ceilingTold_takeFetchBeat {s : State} {c : Command} {l : Load} {b : Nat} {crc : BitVec 16} {kept data : Beat}
    (h : s.tables.stateOf l.table = .loading) : CeilingTold s (s.takeFetchBeat c l b crc kept data) := by
  unfold State.takeFetchBeat
  dsimp only
  generalize min 32 (l.bytes - 32 * b) = n
  have states (id : TableId) := takeBeat_stateOf s.tables l b n kept data id
  have limits := takeBeat_limits s.tables l b n kept data
  have setup (m : LineNo) := takeBeat_lineSetup s.tables l b n kept data m
  obtain ⟨u, hu, lines, protection, tables⟩ : ∃ u, u = ({ s with tables := s.tables.takeBeat l b n kept data } : State)
      ∧ u.lines = s.lines ∧ u.protection = s.protection ∧ u.tables = s.tables.takeBeat l b n kept data := ⟨_, rfl, rfl, rfl, rfl⟩
  rw [← hu]
  rw [← tables] at states limits setup
  by_cases ht : l.table = .limits
  · have loading : s.limits = defaultLimits ∧ u.limits = defaultLimits := by
      rw [ht] at h
      have later : u.tables.limitsState = .loading := (states .limits).trans h
      have before : s.tables.limitsState = .loading := h
      unfold State.limits
      rw [later, before]
      exact ⟨rfl, rfl⟩
    have ceiling : u.ceiling = s.ceiling := by
      refine Steady.ceiling ⟨by rw [protection], by rw [protection], ?_⟩
      rw [loading.1, loading.2]
    refine ceilingTold_from lines ceiling (fun m => ?_) ?_
    · unfold State.driverCount
      have other : l.table ≠ .lineSetup := by
        rw [ht]
        nofun
      rw [setup, if_neg fun e => other e.1]
    · split
      · exact ceilingTold_endLoad _ _ u
      · exact ceilingTold_after (outside_setLoad _ _ _) (by decide) (ceilingTold_of_eq rfl)
  · have steady : Steady s u := by
      refine ⟨by rw [protection], by rw [protection], limits_of_table (states .limits) ?_⟩
      rw [limits, if_neg fun e => ht e.1]
    refine ceilingTold_of_eq (Steady.ceiling (steady_step (steady_ite ?_ ?_) steady))
    · exact steady_endLoad ht _ u
    · exact steady_of_outside (outside_setLoad _ _ _)

theorem ceilingTold_routeReturn {s : State} (h : TableInv s) (e : Tracked) (rest : List Tracked) (data : Beat) :
    CeilingTold s (s.routeReturn e rest data) := by
  unfold State.routeReturn
  dsimp only
  have linked := outside_link s { s.link with tracking := countReturn e rest }
  refine ceilingTold_before linked (by decide) ?_
  have agrees : TableInv { s with link := { s.link with tracking := countReturn e rest } } := h
  generalize ({ s with link := { s.link with tracking := countReturn e rest } } : State) = u at agrees
  have same : CeilingTold u u := ceilingTold_of_eq rfl
  split
  · exact ceilingTold_after (outside_returnUpstream _ data _) (by decide) same
  · unfold State.fetchReturn
    split
    · unfold State.fetchBeat
      split
      · exact same
      · next c he =>
        split
        · exact same
        · next l hl =>
          split
          · exact same
          · next b crc kept hp =>
            split
            · refine ceilingTold_takeFetchBeat ((agrees l.table).2 ⟨l, b, crc, kept, ?_, rfl, hp⟩)
              rw [load_some he, hl]
            · exact same
    · exact same
    · exact same

theorem ceilingTold_downstreamDown (s : State) : CeilingTold s s.downstreamDown := by
  unfold State.downstreamDown
  refine ceilingTold_before (outside_link s { s.link with downstream := .down, injected := [], waitCount := 0, tracking := [] })
    (by decide) ?_
  unfold State.stallRing
  split
  · exact ceilingTold_of_eq rfl
  · split
    · split
      · exact ceilingTold_failLoad _ _ _
      · exact ceilingTold_of_eq rfl
    · exact ceilingTold_after (outside_ring _ _) (by decide) (ceilingTold_of_eq rfl)

/-! ### Every command -/

/-- A change of the ceiling and a change of the backlight state are signalled. -/
def Signals (s t : State) : Prop := (PowerInv s → TableInv s → CeilingTold s t) ∧ BacklightTold s t

theorem signals_calm {s t : State} (h : CeilingTold s t) (k : Calm s t) : Signals s t := ⟨fun _ _ => h, Or.inl k.backlight⟩

theorem signals_steady {s t : State} (h : Steady s t) (k : BacklightLatest s t) : Signals s t :=
  ⟨fun _ _ => ceilingTold_of_eq h.ceiling, told_of_latest k⟩

theorem signals_refl (s : State) : Signals s s := signals_calm (ceilingTold_of_eq rfl) (calm_refl s)

theorem signals_outside {ps : List Piece} {s t : State} (o : Outside ps s t)
    (hp : Piece.protection ∉ ps ∧ Piece.tables ∉ ps) : Signals s t :=
  ⟨fun _ _ => ceilingTold_of_eq (steady_of_outside o hp).ceiling, Or.inl (congrArg Protection.backlight (o .protection hp.1))⟩

theorem signals_ite {c : Prop} [Decidable c] {s t u : State} (ht : Signals s t) (hu : Signals s u) :
    Signals s (if c then t else u) := by
  split
  · exact ht
  · exact hu

theorem signals_whenLive {f : State → State} {s : State} (h : Signals s (f s)) : Signals s (s.whenLive f) :=
  signals_ite (signals_refl s) h

/-- A command of the ring signals what its body does once the command has begun. -/
theorem signals_runCommand {r : Row} {body : BitVec 1024 → State → State}
    (hb : ∀ snap u, CeilingTold u (body snap u) ∧ BacklightTold u (body snap u)) (s : State) : Signals s (s.runCommand r body) := by
  have begins (snap : BitVec 1024) := outside_beginCommand snap s
  unfold State.runCommand
  split
  · exact signals_refl s
  · next snap _ =>
    refine signals_ite ?_ (signals_refl s)
    split
    · exact signals_outside (outside_step (outside_answer _ _ _) (by decide)
        (outside_mono (qs := [.ring, .freeCount]) (begins snap) (by decide))) (by decide)
    · obtain ⟨ceiling, backlight⟩ := hb snap (s.beginCommand snap)
      exact ⟨fun _ _ => ceilingTold_before (begins snap) (by decide) ceiling, backlight⟩

/-- The body of a command that is answered after operations that signal their changes. -/
theorem told_answered {s t : State} (h : CeilingTold s t) (k : BacklightTold s t) (data : List Injected) (a : Answer) :
    CeilingTold s (t.answer data a) ∧ BacklightTold s (t.answer data a) :=
  ⟨ceilingTold_after (outside_answer data a t) (by decide) h, backlightTold_step k (unreported_of_outside (outside_answer data a t))⟩

theorem told_answeredBare (s : State) (a : Answer) : CeilingTold s (s.answer [] a) ∧ BacklightTold s (s.answer [] a) :=
  told_answered (ceilingTold_of_eq (s := s) rfl) (Or.inl rfl) [] a

theorem told_runBacklightOn (snap : BitVec 1024) (s : State) :
    CeilingTold s (s.runBacklightOn snap) ∧ BacklightTold s (s.runBacklightOn snap) := by
  have answers := told_answeredBare s
  have targeted (a : Answer) : CeilingTold s ((s.setTarget true).answer [] a) ∧ BacklightTold s ((s.setTarget true).answer [] a) :=
    told_answered (ceilingTold_of_eq (steady_setTarget true s).ceiling) (Or.inl rfl) [] a
  unfold State.runBacklightOn State.backlightOn
  split
  · split
    · next hb =>
      have dark : (s.setTarget true).protection.backlight ≠ .poweringDown := by
        show s.protection.backlight ≠ _
        rw [hb]
        nofun
      split
      · exact answers _
      · refine told_answered (ceilingTold_of_eq (steady_step (steady_powerUpBegin dark) (steady_setTarget true s)).ceiling) ?_ _ _
        exact told_of_latest (latest_of_reported (reported_step (reported_powerUpBegin _) (reported_protection s _ rfl)))
    · exact targeted _
    · exact targeted _
    · exact answers _
    · split
      · exact answers _
      · exact answers _
    · exact answers _
  · exact answers _

theorem exec_signals {c : Instr} {s t : State} (hc : c ≠ .resetAsserted) (h : exec c s = .next t) : Signals s t := by
  have live {f : State → State} (hf : ∀ s, Signals s (f s)) (e : (.next (s.whenLive f) : Out) = .next t) : Signals s t := by
    cases e
    exact signals_whenLive (hf s)
  have runs {r : Row} {body : BitVec 1024 → State → State}
      (hb : ∀ snap u, CeilingTold u (body snap u) ∧ BacklightTold u (body snap u))
      (e : (.next (s.runCommand r body) : Out) = .next t) : Signals s t := by
    cases e
    exact signals_runCommand hb s
  cases c
  case resetAsserted => exact absurd rfl hc
  case requestReceived r =>
    refine live (fun s => signals_ite (signals_refl s) (signals_ite (signals_outside (outside_link s _) (by decide)) ?_)) h
    exact signals_calm (ceilingTold_of_eq (steady_receive r s).ceiling) (calm_receive r s)
  case returnBeatReceived data =>
    refine live (fun s => signals_ite (signals_refl s) ?_) h
    split
    · exact signals_calm (ceilingTold_downstreamDown s) (calm_downstreamDown s)
    · exact ⟨fun _ tables => ceilingTold_routeReturn tables _ _ data, Or.inl (calm_routeReturn _ _ data s).backlight⟩
  case downstreamLinkDown => exact live (fun s => signals_calm (ceilingTold_downstreamDown s) (calm_downstreamDown s)) h
  case latchEnd l =>
    refine live (fun s => ?_) h
    split
    · next f _ =>
      refine signals_ite ?_ (signals_refl s)
      have ended := steady_of_outside (outside_modifyLine l (fun x => { x with inFlight := some { f with ended := true } }) s)
      exact signals_steady (steady_step (steady_protection _ _ Iff.rfl rfl) ended) (Or.inl rfl)
    · exact signals_refl s
  case returnCheck l bytes =>
    refine live (fun s => ?_) h
    split
    · next f hf =>
      refine signals_ite (signals_ite ⟨fun _ _ => ?_, ?_⟩ ⟨fun _ _ => ?_, ?_⟩) (signals_refl s)
      · exact ceilingTold_frameSucceeds l f bytes s
      · exact told_of_latest (backlightLatest_frameSucceeds l f bytes s)
      · exact ceilingTold_frameFails hf
      · exact told_of_latest (backlightLatest_frameFails hf)
    · exact signals_refl s
  case timeout l =>
    refine live (fun s => ?_) h
    split
    · next f hf => exact ⟨fun _ _ => ceilingTold_frameFails hf, told_of_latest (backlightLatest_frameFails hf)⟩
    · exact signals_refl s
  case waitSlotElapsed l =>
    refine live (fun s => signals_ite ⟨fun power _ => ?_, ?_⟩ (signals_refl s)) h
    · exact ceilingTold_of_eq (steady_lineStarts power l).ceiling
    · exact told_of_latest (latest_of_reported (reported_lineStarts l s))
  case powerUpStep =>
    refine live (fun s => ?_) h
    split
    · next m rest _ _ =>
      refine signals_ite (signals_steady ?_ (latest_of_reported ?_)) (signals_refl s)
      · exact steady_step (steady_of_outside (outside_startOrder _ _)) (steady_setSequencer (.up rest m) (stepTimerFor rest) s)
      · exact reported_step (reported_of_outside (outside_startOrder _ _))
          (reported_setSequencer (.up rest m) (stepTimerFor rest) s)
    all_goals exact signals_refl s
  case powerDownStep =>
    refine live (fun s => signals_ite ⟨fun _ _ => ?_, ?_⟩ (signals_refl s)) h
    · exact ceilingTold_of_settles (steady_refl s) (settles_dropOne s)
    · exact told_of_latest (latest_of_reported (reported_dropOne s))
  case analogSample codes => exact live (fun s => ⟨fun _ _ => ceilingTold_sample codes s, backlightTold_sample codes s⟩) h
  case coolDownEnd codes =>
    exact live (fun s => signals_ite ⟨fun _ _ => ceilingTold_sample codes s, backlightTold_sample codes s⟩ (signals_refl s)) h
  case ocTrip =>
    exact live (fun s => signals_ite (signals_steady (steady_ocSample true s) (Or.inl (calm_ocSample true s).backlight)) (signals_refl s)) h
  case overcurrentSample asserted =>
    exact live (fun s => signals_steady (steady_ocSample asserted s) (Or.inl (calm_ocSample asserted s).backlight)) h
  case timedRelease =>
    refine live (fun s => ?_) h
    split
    · exact signals_ite (signals_steady (steady_releaseTrip s) (Or.inl (calm_releaseTrip s).backlight)) (signals_refl s)
    · exact signals_refl s
  case setGrid =>
    refine runs (fun snap u => ?_) h
    unfold State.runSetGrid
    split
    · exact told_answeredBare u _
    · refine told_answered (ceilingTold_of_eq (Steady.ceiling ?_)) (Or.inl ?_) _ _
      all_goals rw [replaceGrid_eq]
      exact ⟨Iff.rfl, rfl, rfl⟩
  case backlightOn => exact runs told_runBacklightOn h
  case backlightOff =>
    refine runs (fun snap u => ?_) h
    unfold State.runBacklightOff
    split
    · exact told_answered (ceilingTold_backlightOff u) (told_of_latest (latest_of_reported (reported_backlightOff u))) _ _
    · exact told_answeredBare u _
  case tableLoadBegin =>
    refine live (fun s => ?_) h
    split
    · exact signals_refl s
    · next l _ =>
      split
      · refine signals_ite (signals_calm ?_ (calm_beginLoad l s)) (signals_refl s)
        exact ceilingTold_after (outside_setLoad _ _ _) (by decide) (ceilingTold_setTableState l.table .loading s)
      · exact signals_refl s
  case clearFaultProtection =>
    refine runs (fun snap u => ?_) h
    unfold State.runClearProtection
    split
    · exact told_answered (ceilingTold_of_eq (steady_clearProtection u).ceiling) (backlightTold_clearProtection u) _ _
    · exact told_answeredBare u _
  all_goals exact signals_outside (exec_outside h) (by simp [touched])

/-- Settles O40 (`exec_signals`). -/
theorem changesAreSignalled : Obligations.ChangesAreSignalled := fun c s t hc h => by
  obtain ⟨ceiling, backlight⟩ := exec_signals hc h
  exact ⟨fun l power tables hn hs ht => ceiling power tables l hn hs ht, backlight.resolve_left⟩

end Sys2Proof.Laws
end
